-- ==== Sys2Proof/Word.lean ====
section
/-! DEFINITION. The widths of the core's values (`00_scope.md` R8). -/

namespace Sys2Proof

/-- A command, parameter or status word, and the 32-bit registers (`30_encoding.md` R91, R94). -/
abbrev Word := BitVec 32

/-- One element of `IN`, `OUT` and `WIN` (`20_memory.md` R60). -/
abbrev Byte := BitVec 8

/-- One frequency counter of the model bank (`10_state.md` R43). -/
abbrev Counter := BitVec 17

end Sys2Proof
end

