-- ==== Sys2Proof/Config.lean ====
section
/-! DEFINITION. The format profile's constants, REF values (`00_scope.md` R6), the read-only initial table, and the
free values: constants with no body, about which nothing can be proved. -/

namespace Sys2Proof.Config

/-- Smallest and largest dictionary-size class (`00_scope.md` R6). -/
abbrev dictLog2Min : Nat := 4
abbrev dictLog2Max : Nat := 24

/-- How many adaptation-rate classes there are (`00_scope.md` R6). -/
abbrev numRateClasses : Nat := 4

/-- `TMAX(c)`, the rescale threshold of rate class `c` (`41_model_bank.md` R165). -/
def tmax (rate : Nat) : Nat := 1024 <<< (2 * rate)

/-- `INC`, what an observed symbol's counter gains (`41_model_bank.md` R163). -/
abbrev inc : Nat := 32

/-- `INIT_FREQ` (`41_model_bank.md` R161). -/
abbrev initFreq : Nat := 1

/-- Alphabet sizes of the fixed models (`10_state.md` R43). -/
abbrev nCtrl : Nat := 3
abbrev nLit : Nat := 256
abbrev nLen : Nat := 256

/-- `N_SLOT = CFG_DICT_LOG2 + 1` (`10_state.md` R43). -/
abbrev nSlot (dictLog2 : Nat) : Nat := dictLog2 + 1

/-- The read-only initial-table ROM: a model of `n` symbols (`10_state.md` R45, `41_model_bank.md` R161). -/
def initialTable (n : Nat) : List Counter := List.replicate n (BitVec.ofNat 17 initFreq)

/-- `MIN_MATCH`, the length of length-symbol 0 (`30_encoding.md` R102). -/
abbrev minMatch : Nat := 2

/-- `RC_TOP` (`40_range_decoder.md` R131). -/
abbrev rcTop : Nat := 16777216

/-- `RC_INIT_BYTES` (`40_range_decoder.md` R131). -/
abbrev rcInitBytes : Nat := 5

/-- `RANGE` after INIT and REINIT (`40_range_decoder.md` R131). -/
abbrev rangeInit : Word := 0xFFFFFFFF

/-- `ADLER_MOD` (`42_history_window.md` R192). -/
abbrev adlerMod : Nat := 65521

/-- How many direct bits the stored checksum has (`30_encoding.md` R104). -/
abbrev csumBits : Nat := 32

/-- `ENGINE_VERSION` (`44_host_commands.md` R262). -/
abbrev engineVersion : Word := 0x00000001

/-- `NUM_INSTANCES`, OPEN: how many cores a platform has (`60_exceptions.md` R318; log entry 10). -/
opaque numInstances : Nat

/-- FREE VALUE. What register number `reg` holds after the DEINIT numbered `draw`: unspecified
(`10_state.md` R50, `44_host_commands.md` R266; log entry 2). -/
opaque freeRegister (reg draw : Nat) : Nat

/-- FREE VALUE. What counter `s` of context number `c` holds after the DEINIT numbered `draw`
(`10_state.md` R50; log entry 2). -/
opaque freeCounter (c s draw : Nat) : Nat

/-- FREE VALUE. The byte at window index `i` that nothing has written since the draw numbered `draw`
(`10_state.md` R46, `93_implementation_defined.md` U1; log entry 3). -/
opaque freeWindowByte (i draw : Nat) : Byte

end Sys2Proof.Config
end

