-- ==== Sys2Proof/Syntax.lean ====
section
/-! DEFINITION. The instructions: one constructor per row of `spec/opcode_table.json` (`30_encoding.md` R110). -/

namespace Sys2Proof

/-- Host commands with their operands (`30_encoding.md` R92), the reserved command space, the stream items with
theirs (`30_encoding.md` R108), and the host procedure ONESHOT. -/
inductive Instr where
  /-- VERSION (`44_host_commands.md` R262). -/
  | version
  /-- INIT with its PARAM word (`44_host_commands.md` R264). -/
  | init (param : Word)
  /-- REINIT with its PARAM word (`44_host_commands.md` R265). -/
  | reinit (param : Word)
  /-- DEINIT (`44_host_commands.md` R266). -/
  | deinit
  /-- STEP with `FINAL`, `IN` and `OCAP` (`44_host_commands.md` R267). -/
  | step (final : Bool) (input : List Byte) (ocap : Nat)
  /-- QUERY of register index `qidx` (`44_host_commands.md` R268). -/
  | query (qidx : BitVec 4)
  /-- A command word of opcode 0x6 or 0x7, any other bits (`44_host_commands.md` R269). -/
  | reservedOp67 (word : Word)
  /-- A command word of opcode 0x8 to 0xF, any other bits (`44_host_commands.md` R269). -/
  | reservedOp8F (word : Word)
  /-- LIT b (`43_decode_driver.md` R229). -/
  | lit (b : Byte)
  /-- MATCH len=L, dist=d (`43_decode_driver.md` R230). -/
  | matchItem (len dist : Nat)
  /-- EOS csum=x (`43_decode_driver.md` R231). -/
  | eos (csum : Word)
  /-- ONESHOT P, src, cap, want_csum (`44_host_commands.md` R270). -/
  | oneshot (param : Word) (src : List Byte) (cap : Nat) (wantCsum : Bool)
  deriving DecidableEq, Repr

end Sys2Proof
end

