-- ==== Sys2Proof/Decode.lean ====
section
/-! DEFINITION. Encodings: command words with the operands that travel beside them (`30_encoding.md` R91-R95), and
stream items as the list of symbols the range decoder yields for them (`30_encoding.md` R99-R104). Decoding is total
and rejects by name; the encoder follows. -/

namespace Sys2Proof

/-- What the host hands over with one command: the word, and beside it PARAM, `IN` and `OCAP`
(`30_encoding.md` R91). A command that takes no such operand does not look at it
(log entry 13). -/
structure Command where
  cmd : Word
  param : Word
  input : List Byte
  ocap : Nat
  deriving DecidableEq, Repr

/-- What the host asks of an instance: a command, or the host procedure ONESHOT, which has no command word
(`30_encoding.md` R109, `44_host_commands.md` R270). -/
inductive Request where
  | command (c : Command)
  | oneshot (param : Word) (src : List Byte) (cap : Nat) (wantCsum : Bool)
  deriving DecidableEq, Repr

/-- The two kinds of encoding the core decodes (`30_encoding.md` R90): a request of the host, or a stream item as the
symbols and direct bits of its fields, in the order of the grammar (`30_encoding.md` R99; log entry 16). -/
inductive Code where
  | request (r : Request)
  | symbols (fields : List Nat)
  deriving DecidableEq, Repr

/-- Why an encoding is no instruction. -/
inductive DecodeError where
  /-- A reserved bit of a command word is 1 (`30_encoding.md` R93). -/
  | reservedBit
  /-- `FINAL` is 1 outside STEP (`30_encoding.md` R93). -/
  | finalOutsideStep
  /-- `QIDX` is nonzero outside QUERY (`30_encoding.md` R93). -/
  | qidxOutsideQuery
  /-- The control symbol is none of 0, 1, 2 (`30_encoding.md` R100). -/
  | noSuchControl
  /-- The literal symbol is not below 256 (`30_encoding.md` R101). -/
  | noSuchLiteral
  /-- The length symbol is not below 256 (`30_encoding.md` R102). -/
  | noSuchLength
  /-- The slot symbol is above the largest dictionary class (`30_encoding.md` R103). -/
  | noSuchSlot
  /-- A direct bit is neither 0 nor 1 (`40_range_decoder.md` R137). -/
  | noSuchBit
  /-- The item has too few or too many fields (`30_encoding.md` R99). -/
  | fieldCount
  deriving DecidableEq, Repr

/-! ## Command words (`30_encoding.md` R91) -/

/-- `OP`, bits 3:0. -/
def opField (w : Word) : BitVec 4 := w.extractLsb' 0 4

/-- `FINAL`, bit 4. -/
def finalField (w : Word) : Bool := w.getLsbD 4

/-- `QIDX`, bits 11:8. -/
def qidxField (w : Word) : BitVec 4 := w.extractLsb' 8 4

/-- Bits 7:5 and 31:12 are reserved and must be 0. -/
def reservedClear (w : Word) : Bool := w.extractLsb' 5 3 == 0 && w.extractLsb' 12 20 == 0

/-- The instruction of a word with a defined opcode whose other bits are as they must be, by the opcode map
(`30_encoding.md` R92). -/
def commandOf (c : Command) : Instr :=
  match (opField c.cmd).toNat with
  | 0 => .version
  | 1 => .init c.param
  | 2 => .reinit c.param
  | 3 => .deinit
  | 4 => .step (finalField c.cmd) c.input c.ocap
  | _ => .query (qidxField c.cmd)

/-- Decode a command word (`30_encoding.md` R92, R93). The reserved opcodes are rows of their own, whatever their
other bits; any other word with a bit it may not have is rejected (log entry 12). -/
def decodeCommand (c : Command) : Except DecodeError Instr :=
  let op := (opField c.cmd).toNat
  if 8 ≤ op then .ok (.reservedOp8F c.cmd)
  else if 6 ≤ op then .ok (.reservedOp67 c.cmd)
  else if !reservedClear c.cmd then .error .reservedBit
  else if finalField c.cmd && op != 4 then .error .finalOutsideStep
  else if qidxField c.cmd != 0 && op != 5 then .error .qidxOutsideQuery
  else .ok (commandOf c)

/-! ## Stream items (`30_encoding.md` R99-R104) -/

/-- `k` direct bits, most significant first, put below a leading `acc` (`30_encoding.md` R103, R104). -/
def assembleBits (acc : Nat) : List Nat → Nat
  | [] => acc
  | e :: es => assembleBits (2 * acc + e) es

/-- The low `k` bits of `x`, most significant first (`30_encoding.md` R108). -/
def bitsOf : Nat → Nat → List Nat
  | 0, _ => []
  | k + 1, x => (x >>> k) % 2 :: bitsOf k x

/-- Every element is a bit. -/
def allBits (es : List Nat) : Bool := es.all (fun e => decide (e < 2))

/-- Decode a stream item from its fields (`30_encoding.md` R99). -/
def decodeItem : List Nat → Except DecodeError Instr
  | [] => .error .fieldCount
  | 0 :: fs =>
    match fs with
    | [b] => if b < Config.nLit then .ok (.lit (BitVec.ofNat 8 b)) else .error .noSuchLiteral
    | _ => .error .fieldCount
  | 1 :: fs =>
    match fs with
    | l :: k :: es =>
      if Config.nLen ≤ l then .error .noSuchLength
      else if Config.dictLog2Max < k then .error .noSuchSlot
      else if es.length != k then .error .fieldCount
      else if !allBits es then .error .noSuchBit
      else .ok (.matchItem (l + Config.minMatch) (assembleBits 1 es))
    | _ => .error .fieldCount
  | 2 :: es =>
    if es.length != Config.csumBits then .error .fieldCount
    else if !allBits es then .error .noSuchBit
    else .ok (.eos (BitVec.ofNat 32 (assembleBits 0 es)))
  | _ :: _ => .error .noSuchControl

/-- Decode any encoding. -/
def decode : Code → Except DecodeError Instr
  | .request (.command c) => decodeCommand c
  | .request (.oneshot p src cap want) => .ok (.oneshot p src cap want)
  | .symbols fs => decodeItem fs

/-! ## The encoder -/

/-- A command word with its operands beside it; operands the command does not take are 0 or empty. -/
def wordCode (w : Word) (param : Word := 0) (input : List Byte := []) (ocap : Nat := 0) : Code :=
  .request (.command { cmd := w, param := param, input := input, ocap := ocap })

/-- The encoding of an instruction (`30_encoding.md` R107 for commands, R108 for items). -/
def encode : Instr → Code
  | .version => wordCode 0x00000000
  | .init p => wordCode 0x00000001 p
  | .reinit p => wordCode 0x00000002 p
  | .deinit => wordCode 0x00000003
  | .step final input ocap => wordCode (if final then 0x00000014 else 0x00000004) 0 input ocap
  | .query q => wordCode (0x00000005 ||| (q.setWidth 32 <<< 8))
  | .reservedOp67 w => wordCode w
  | .reservedOp8F w => wordCode w
  | .lit b => .symbols [0, b.toNat]
  | .matchItem len dist => .symbols (1 :: (len - Config.minMatch) :: dist.log2 :: bitsOf dist.log2 dist)
  | .eos x => .symbols (2 :: bitsOf Config.csumBits x.toNat)
  | .oneshot p src cap want => .request (.oneshot p src cap want)

/-! ## The opcode table's numbering (log entry 14) -/

/-- The fields of an item whose control symbol is `ctrl` and whose operand fields are all 0. -/
def zeroItem (ctrl : Nat) : List Nat :=
  match ctrl with
  | 0 => [0, 0]
  | 1 => [1, 0, 0]
  | 2 => 2 :: List.replicate Config.csumBits 0
  | c => [c]

/-- An instruction whose bits are `w`, bit 0 the least significant bit of its first word: 32 bits and more are a
command word and, above it, PARAM; fewer are a control symbol, bits 1:0 (`30_encoding.md` R110), whose operand fields
are 0; no bits at all is the procedure ONESHOT, which has no word. `IN`, `src` are empty and the capacities 0. -/
def tableCode (nbits w : Nat) : Code :=
  if nbits = 0 then .request (.oneshot 0 [] 0 false)
  else if nbits < 32 then .symbols (zeroItem (w % 4))
  else wordCode (BitVec.ofNat 32 w) (BitVec.ofNat 32 (w >>> 32))

/-- The instruction this file's decoder reads from a word of the opcode table. -/
def decodeTableWord (nbits w : Nat) : Option Instr := (decode (tableCode nbits w)).toOption

end Sys2Proof
end

