-- ==== Sys2Proof/Machine/State.lean ====
section
/-! DEFINITION. The state of one core instance (`10_state.md`), its status names, the machine's stops, and the state
after power-on reset. -/

namespace Sys2Proof.Machine

/-- `PHASE` (`10_state.md` R27). Encoding 7 is never held, so the type has no name for it (log entry 18). -/
inductive Phase where
  | uninit | ready | decoding | needInput | needOutputSpace | success | failed
  deriving DecidableEq, Repr

/-- `DSTATE` (`10_state.md` R30). Encodings 11-15 are never held, so the type has no names for them (log entry 18). -/
inductive DState where
  | rcInit | ctrl | lit | emit | len | slot | extra | copy | csum | tail | done
  deriving DecidableEq, Repr

/-- The status codes (`30_encoding.md` R96). -/
inductive Status where
  | okay | needInput | needOutputSpace | success
  | invalidParam | usage | badCommand
  | truncated | corruptFormat | corruptSymbol | corruptDistance | checksum
  | destTooSmall
  deriving DecidableEq, Repr

/-- The four contexts of the model bank (`10_state.md` R43). -/
inductive Ctx where
  | ctrl | lit | len | slot
  deriving DecidableEq, Repr

/-- `FREQ`, the model bank: one list of counters per context (`10_state.md` R43). -/
structure Bank where
  ctrl : List Counter
  lit : List Counter
  len : List Counter
  slot : List Counter
  deriving DecidableEq, Repr

/-- What a command returns to the host (`30_encoding.md` R96, R107): the status code, zero-extended; the value of a
command that returns one; a STEP's `consumed` and `produced` (0 and empty for the other commands). ONESHOT returns
its output in `produced` and the checksum, where it was asked for, in `value` (log entries 15 and 19). -/
structure Response where
  status : Word
  value : Option Word
  consumed : Nat
  produced : List Byte
  deriving DecidableEq, Repr

/-- Why the machine stops. None of them is an error of the stream or of the host's command: those are results
(`60_exceptions.md` R322). -/
inductive Fault where
  /-- Raised by Produce when `TOTAL_OUT` would pass `2^64 - 1` (`93_implementation_defined.md` U6, `60_exceptions.md`
  R322; log entry 7). Safe: the run stops. -/
  | totalOutOverflow
  /-- Raised when a micro-step is due with `DSTATE = DONE`, which has none (`43_decode_driver.md` R211, R224;
  log entry 8). Safe: no run reaches it, and the machine stops. -/
  | noMicroStep
  /-- Raised when `exec` is given a LIT, MATCH or EOS that is not the item the running STEP's stream holds next: an
  item exists only as decoded from the stream (`43_decode_driver.md` R229-R231; log entry 6). Safe: `step` executes
  the item it has read, so no step raises it. -/
  | itemNotInStream
  /-- Raised when a STEP outruns the loop bound; no STEP does (`43_decode_driver.md` R233; log entry 5).
  Safe: the run stops. -/
  | stepBoundExceeded
  deriving DecidableEq, Repr

/-- Why an instruction has no meaning. -/
inductive Refusal where
  /-- Raised by an arm of `exec` whose instruction has no meaning yet. Safe: the run stops. No arm is left so. -/
  | notModelled (mnemonic : String)
  deriving DecidableEq, Repr

/-- One core instance (`10_state.md` R20). -/
structure State where
  /-- `CFG_DICT_LOG2` (R23). -/
  cfgDictLog2 : BitVec 5
  /-- `CFG_RATE` (R24). -/
  cfgRate : BitVec 4
  /-- `CFG_CSUM_EN` (R25). -/
  cfgCsumEn : BitVec 1
  /-- `PHASE` (R27). -/
  phase : Phase
  /-- `ERR` (R29). -/
  err : BitVec 8
  /-- `DSTATE` (R30). -/
  dstate : DState
  /-- `RANGE` (R31). -/
  range : Word
  /-- `CODE` (R32). -/
  code : Word
  /-- `INIT_CNT` (R33). -/
  initCnt : BitVec 3
  /-- `PEND_BYTE` (R35). -/
  pendByte : Byte
  /-- `MLEN` (R36). -/
  mlen : BitVec 9
  /-- `MDIST` (R37). -/
  mdist : Word
  /-- `XBITS` (R38). -/
  xbits : BitVec 5
  /-- `CSUM_CNT` (R39). -/
  csumCnt : BitVec 6
  /-- `CSUM_STORED` (R40). -/
  csumStored : Word
  /-- `TOTAL_OUT` (R41). -/
  totalOut : BitVec 64
  /-- `ADLER_A` (R42). -/
  adlerA : BitVec 16
  /-- `ADLER_B` (R42). -/
  adlerB : BitVec 16
  /-- `FREQ` (R43). -/
  freq : Bank
  /-- `WIN` (R46): the bytes written since the window was last made, by rising index. An index not listed holds an
  unspecified byte (log entry 3). -/
  win : List Host.Cell
  /-- `IN` of the running STEP; empty between commands (R47). -/
  input : List Byte
  /-- `IPOS` of the running STEP; 0 between commands (R47). -/
  ipos : Nat
  /-- `OUT` of the running STEP; empty between commands (R47). -/
  out : List Byte
  /-- `OCAP` of the running STEP; 0 between commands (R47). -/
  ocap : Nat
  /-- `FINAL` of the running STEP; false between commands (R47). -/
  final : Bool
  /-- THE MODEL'S OWN (log entry 4): what the host has issued and the core has not yet taken, next first. -/
  requests : List Request
  /-- THE MODEL'S OWN (log entry 4): the results returned so far, oldest first. -/
  responses : List Response
  /-- THE MODEL'S OWN (log entries 2 and 3): numbers the draws of free values. -/
  draws : Nat
  deriving DecidableEq, Repr

/-- Power-on reset (`10_state.md` R50, `70_reset_and_hazards.md` R340): `PHASE` is UNINIT. Every other register is
unspecified there; the values here are the model's choice (log entry 1), and no command reads them (`10_state.md`
R51). -/
def State.reset : State where
  cfgDictLog2 := 0
  cfgRate := 0
  cfgCsumEn := 0
  phase := .uninit
  err := 0
  dstate := .rcInit
  range := 0
  code := 0
  initCnt := 0
  pendByte := 0
  mlen := 0
  mdist := 0
  xbits := 0
  csumCnt := 0
  csumStored := 0
  totalOut := 0
  adlerA := 0
  adlerB := 0
  freq :=
    { ctrl := List.replicate Config.nCtrl 0
      lit := List.replicate Config.nLit 0
      len := List.replicate Config.nLen 0
      slot := List.replicate (Config.nSlot 0) 0 }
  win := []
  input := []
  ipos := 0
  out := []
  ocap := 0
  final := false
  requests := []
  responses := []
  draws := 0

end Sys2Proof.Machine
end

