-- ==== Sys2Proof/Machine/Operands.lean ====
section
/-! DEFINITION. Operand forms: the PARAM word (`30_encoding.md` R94, R95) and the fields of stream items as the driver
assembles them (`30_encoding.md` R101-R104). -/

namespace Sys2Proof.Machine

/-! ## PARAM -/

/-- `DICT_LOG2`, bits 4:0 (`30_encoding.md` R94). -/
def paramDictLog2 (p : Word) : BitVec 5 := p.extractLsb' 0 5

/-- `RATE`, bits 11:8 (`30_encoding.md` R94). -/
def paramRate (p : Word) : BitVec 4 := p.extractLsb' 8 4

/-- `CSUM_EN`, bit 16 (`30_encoding.md` R94). -/
def paramCsumEn (p : Word) : BitVec 1 := p.extractLsb' 16 1

/-- Bits 7:5, 15:12 and 31:17 are reserved and must be 0 (`30_encoding.md` R94). -/
def paramReservedClear (p : Word) : Bool :=
  p.extractLsb' 5 3 == 0 && p.extractLsb' 12 4 == 0 && p.extractLsb' 17 15 == 0

/-- A valid PARAM word (`30_encoding.md` R95). -/
def paramValid (p : Word) : Bool :=
  paramReservedClear p
    && decide (Config.dictLog2Min ≤ (paramDictLog2 p).toNat) && decide ((paramDictLog2 p).toNat ≤ Config.dictLog2Max)
    && decide ((paramRate p).toNat < Config.numRateClasses)

/-- The parameter word of three latched fields, in PARAM's layout (`10_state.md` R48, index 5). -/
def paramWord (dictLog2 : BitVec 5) (rate : BitVec 4) (csumEn : BitVec 1) : Word :=
  dictLog2.setWidth 32 ||| (rate.setWidth 32 <<< 8) ||| (csumEn.setWidth 32 <<< 16)

/-! ## Fields of stream items -/

/-- The literal byte of a literal symbol (`30_encoding.md` R101). -/
def literalOf (sym : Nat) : Byte := BitVec.ofNat 8 sym

/-- The match length of a length symbol (`30_encoding.md` R102). -/
def lengthOf (sym : Nat) : BitVec 9 := BitVec.ofNat 9 (sym + Config.minMatch)

/-- The distance with one more extra bit, most significant first (`43_decode_driver.md` R220). -/
def distanceWithBit (d : Word) (bit : Nat) : Word := BitVec.ofNat 32 (2 * d.toNat + bit)

/-- The stored checksum with one more bit, most significant first (`43_decode_driver.md` R222). -/
def storedWithBit (x : Word) (bit : Nat) : Word := (x <<< 1) ||| BitVec.ofNat 32 bit

/-- The initial `CODE` with one more stream byte, most significant first (`40_range_decoder.md` R132); the same shift
brings a byte in at a renormalisation (R134). -/
def codeWithByte (code : Word) (b : Byte) : Word := (code <<< 8) ||| b.setWidth 32

end Sys2Proof.Machine
end

