-- ==== Sys2Proof/Machine/Flags.lean ====
section
/-! DEFINITION. The core has no condition codes (`10_state.md` R49). Its status indicators are `PHASE`, `ERR` and the
status code of each command: their encodings, the derived values, and the registers QUERY shows (`10_state.md` R48). -/

namespace Sys2Proof.Machine

/-- The encoding of `PHASE` (`10_state.md` R27). -/
def Phase.code : Phase → BitVec 3
  | .uninit => 0
  | .ready => 1
  | .decoding => 2
  | .needInput => 3
  | .needOutputSpace => 4
  | .success => 5
  | .failed => 6

/-- The encoding of `DSTATE` (`10_state.md` R30). -/
def DState.code : DState → BitVec 4
  | .rcInit => 0
  | .ctrl => 1
  | .lit => 2
  | .emit => 3
  | .len => 4
  | .slot => 5
  | .extra => 6
  | .copy => 7
  | .csum => 8
  | .tail => 9
  | .done => 10

/-- One of the eleven sub-states by number, for a draw of an unspecified `DSTATE` (log entry 2). -/
def dstateOfNat (n : Nat) : DState :=
  match n % 11 with
  | 0 => .rcInit
  | 1 => .ctrl
  | 2 => .lit
  | 3 => .emit
  | 4 => .len
  | 5 => .slot
  | 6 => .extra
  | 7 => .copy
  | 8 => .csum
  | 9 => .tail
  | _ => .done

/-- The status codes (`30_encoding.md` R96). -/
def Status.code : Status → BitVec 8
  | .okay => 0x00
  | .needInput => 0x01
  | .needOutputSpace => 0x02
  | .success => 0x03
  | .invalidParam => 0x10
  | .usage => 0x11
  | .badCommand => 0x12
  | .truncated => 0x20
  | .corruptFormat => 0x21
  | .corruptSymbol => 0x22
  | .corruptDistance => 0x23
  | .checksum => 0x24
  | .destTooSmall => 0x30

/-- A status code as the host gets it, zero-extended to 32 bits (`30_encoding.md` R96). -/
def statusWord (c : BitVec 8) : Word := c.setWidth 32

/-- `CAP = 2^CFG_DICT_LOG2` (`10_state.md` R26). -/
def State.cap (s : State) : Nat := 2 ^ s.cfgDictLog2.toNat

/-- `CSUM`, the computed checksum (`10_state.md` R42). -/
def State.csumComputed (s : State) : Word := (s.adlerB.setWidth 32 <<< 16) ||| s.adlerA.setWidth 32

/-- NeedsNorm (`40_range_decoder.md` R133). -/
def State.needsNorm (s : State) : Bool := decide (s.range.toNat < Config.rcTop)

/-- The register QUERY shows at a defined index (`10_state.md` R48). -/
def State.observed (s : State) (idx : Nat) : Word :=
  match idx with
  | 0 => s.phase.code.setWidth 32
  | 1 => s.err.setWidth 32
  | 2 => s.totalOut.extractLsb' 0 32
  | 3 => s.totalOut.extractLsb' 32 32
  | 4 => s.csumComputed
  | _ => paramWord s.cfgDictLog2 s.cfgRate s.cfgCsumEn

end Sys2Proof.Machine
end

