-- ==== Sys2Proof/Machine/Ops.lean ====
section
/-! DEFINITION. The named operations over memory, the cursor and the registers: the window's store, `InByte` and
`OutByte`, the model bank's lists, returning a result, the ends of a STEP (suspension, finish, failure entry), and the
session's reset and release (`00_scope.md` R9, `20_memory.md`, `60_exceptions.md` R311, `44_host_commands.md` R263). -/

namespace Sys2Proof.Machine

/-! ## The window's store (`20_memory.md` R63)

A list of (index, byte) pairs, indices strictly rising; an index not listed has no value here, so no entry can equal
what an unlisted index reads as. -/

/-- The canonical form: indices strictly rising. -/
def Memory.wf : List Host.Cell → Bool
  | [] => true
  | [_] => true
  | c :: d :: rest => decide (c.1 < d.1) && Memory.wf (d :: rest)

/-- The byte at an index, `none` where nothing has been written. -/
def Memory.read : List Host.Cell → Nat → Option Byte
  | [], _ => none
  | c :: rest, i => if c.1 = i then some c.2 else if i < c.1 then none else Memory.read rest i

/-- The store with the byte at an index set. -/
def Memory.write : List Host.Cell → Nat → Byte → List Host.Cell
  | [], i, b => [(i, b)]
  | c :: rest, i, b =>
    if c.1 = i then (i, b) :: rest
    else if i < c.1 then (i, b) :: c :: rest
    else c :: Memory.write rest i b

/-- `MemRead(WIN, i, 1)` (`20_memory.md` R63): a byte nothing has written since the window was made is a free value
(`93_implementation_defined.md` U1; log entry 3). -/
def State.winRead (s : State) (i : Nat) : Byte :=
  (Memory.read s.win i).getD (Config.freeWindowByte i s.draws)

/-! ## The decode cursor (`00_scope.md` R9, `20_memory.md` R61, R62) -/

/-- `InAvail()`. -/
def State.inAvail (s : State) : Bool := decide (s.ipos < s.input.length)

/-- The byte `InByte()` returns, `IN[IPOS]`; only looked at when `InAvail()`. -/
def State.nextByte (s : State) : Byte := s.input.getD s.ipos 0

/-- What `InByte()` does: the byte is consumed. -/
def State.takeByte (s : State) : State := { s with ipos := s.ipos + 1 }

/-- `OutAvail()`. -/
def State.outAvail (s : State) : Bool := decide (s.out.length < s.ocap)

/-- `OutByte(b)`. -/
def State.outByte (b : Byte) (s : State) : State := { s with out := s.out ++ [b] }

/-- The cursor a STEP carries, at its start (`44_host_commands.md` R267). -/
def State.openCursor (final : Bool) (input : List Byte) (ocap : Nat) (s : State) : State :=
  { s with input := input, ipos := 0, out := [], ocap := ocap, final := final }

/-- The cursor is discarded when the STEP ends (`10_state.md` R47). -/
def State.closeCursor (s : State) : State := s.openCursor false [] 0

/-! ## Registers -/

/-- `DSTATE <- d` (`00_scope.md` R9). -/
def State.goto (d : DState) (s : State) : State := { s with dstate := d }

/-- `PHASE <- p`. -/
def State.setPhase (p : Phase) (s : State) : State := { s with phase := p }

/-- `RANGE` and `CODE` written. -/
def State.setCoder (range code : Word) (s : State) : State := { s with range := range, code := code }

/-- `FREQ[c]`, the counters of a context. -/
def Bank.get (f : Bank) : Ctx → List Counter
  | .ctrl => f.ctrl
  | .lit => f.lit
  | .len => f.len
  | .slot => f.slot

/-- `FREQ[c]` written. -/
def Bank.set (f : Bank) (c : Ctx) (l : List Counter) : Bank :=
  match c with
  | .ctrl => { f with ctrl := l }
  | .lit => { f with lit := l }
  | .len => { f with len := l }
  | .slot => { f with slot := l }

/-- `FREQ[c] <- l`. -/
def State.setFreq (c : Ctx) (l : List Counter) (s : State) : State := { s with freq := s.freq.set c l }

/-! ## Returning a result -/

/-- The command's result goes to the host. -/
def State.respond (r : Response) (s : State) : State := { s with responses := s.responses ++ [r] }

/-- A result that is a status code alone. -/
def statusOnly (c : Status) : Response :=
  { status := statusWord c.code, value := none, consumed := 0, produced := [] }

/-- A result that is a status code and a value. -/
def statusValue (c : Status) (v : Word) : Response :=
  { status := statusWord c.code, value := some v, consumed := 0, produced := [] }

/-- A command that has written no state, or whose writes are done, returns its result. -/
def answer (r : Response) (s : State) : Host.Outcome State Fault Refusal := .next (s.respond r)

/-- FAIL_BAD_COMMAND (`44_host_commands.md` R269): value 0, nothing consumed or produced, no state written. -/
def badCommand (s : State) : Host.Outcome State Fault Refusal := answer (statusValue .badCommand 0) s

/-! ## How a micro-step ends (`00_scope.md` R10, `43_decode_driver.md` R210) -/

/-- The outcome of a micro-step: the STEP continues; or it has ended with a status, by a suspension, `finish` or a
failure, `PHASE` written; or the model stops. -/
inductive Micro where
  | cont (s : State)
  | stop (status : Status) (s : State)
  | fault (f : Fault)
  deriving DecidableEq, Repr

/-- `suspend(NEED_INPUT)` (`43_decode_driver.md` R210). -/
def suspendInput (s : State) : Micro := .stop .needInput (s.setPhase .needInput)

/-- `suspend(NEED_OUTPUT_SPACE)` (`43_decode_driver.md` R210). -/
def suspendOutput (s : State) : Micro := .stop .needOutputSpace (s.setPhase .needOutputSpace)

/-- `finish` (`43_decode_driver.md` R210). -/
def finish (s : State) : Micro := .stop .success (s.setPhase .success)

/-- Failure entry, this core's counterpart of taking an exception (`60_exceptions.md` R311): `ERR` takes the code and
`PHASE` becomes FAILED; nothing else is saved and control returns to the host. -/
def failureEntry (c : Status) (s : State) : State := { s with err := c.code, phase := .failed }

/-- `raise Fail(code)`: the writes made so far stay (`43_decode_driver.md` R226). -/
def raiseFail (c : Status) (s : State) : Micro := .stop c (failureEntry c s)

/-- NeedIn (`43_decode_driver.md` R212). -/
def needIn (s : State) : Micro := if s.final then raiseFail .truncated s else suspendInput s

/-- The result of a STEP that ran the loop (`43_decode_driver.md` R227). -/
def stepResult (c : Status) (s : State) : Response :=
  { status := statusWord c.code, value := none, consumed := s.ipos, produced := s.out }

/-- The end of a STEP: its result is returned and its cursor discarded (`43_decode_driver.md` R227, `10_state.md`
R47). -/
def endStep (c : Status) (s : State) : State := s.closeCursor.respond (stepResult c s)

/-- A micro-step's outcome as the machine's. -/
def closeMicro : Micro → Host.Outcome State Fault Refusal
  | .cont s => .next s
  | .stop c s => .next (endStep c s)
  | .fault f => .fault f

/-! ## Leaving a session's state: the counterpart of returning from an exception (`60_exceptions.md` R313) -/

/-- The canonical initial tables of a dictionary class (`41_model_bank.md` R161, R167). -/
def initialBank (dictLog2 : BitVec 5) : Bank where
  ctrl := Config.initialTable Config.nCtrl
  lit := Config.initialTable Config.nLit
  len := Config.initialTable Config.nLen
  slot := Config.initialTable (Config.nSlot dictLog2.toNat)

/-- SessionReset(P), shared by INIT and REINIT (`44_host_commands.md` R263). The window's content becomes unspecified:
nothing is listed and the next draw begins (log entry 3). -/
def sessionReset (p : Word) (s : State) : State :=
  { s with
    cfgDictLog2 := paramDictLog2 p
    cfgRate := paramRate p
    cfgCsumEn := paramCsumEn p
    err := 0
    dstate := .rcInit
    range := Config.rangeInit
    code := 0
    initCnt := 0
    pendByte := 0
    mlen := 0
    mdist := 0
    xbits := 0
    csumCnt := 0
    csumStored := 0
    totalOut := 0
    adlerA := 1
    adlerB := 0
    freq := initialBank (paramDictLog2 p)
    win := []
    draws := s.draws + 1
    phase := .ready }

/-- The counters of a context whose content is unspecified (log entry 2). -/
def freeCounters (c n draw : Nat) : List Counter :=
  (List.range n).map (fun i => BitVec.ofNat 17 (Config.freeCounter c i draw))

/-- What DEINIT does to a session (`44_host_commands.md` R266, `10_state.md` R50): `PHASE` becomes UNINIT and every
other register and the window become unspecified, each a free value of this draw (log entry 2). -/
def release (s : State) : State :=
  let dict := BitVec.ofNat 5 (Config.freeRegister 0 s.draws)
  { s with
    cfgDictLog2 := dict
    cfgRate := BitVec.ofNat 4 (Config.freeRegister 1 s.draws)
    cfgCsumEn := BitVec.ofNat 1 (Config.freeRegister 2 s.draws)
    err := BitVec.ofNat 8 (Config.freeRegister 3 s.draws)
    dstate := dstateOfNat (Config.freeRegister 4 s.draws)
    range := BitVec.ofNat 32 (Config.freeRegister 5 s.draws)
    code := BitVec.ofNat 32 (Config.freeRegister 6 s.draws)
    initCnt := BitVec.ofNat 3 (Config.freeRegister 7 s.draws)
    pendByte := BitVec.ofNat 8 (Config.freeRegister 8 s.draws)
    mlen := BitVec.ofNat 9 (Config.freeRegister 9 s.draws)
    mdist := BitVec.ofNat 32 (Config.freeRegister 10 s.draws)
    xbits := BitVec.ofNat 5 (Config.freeRegister 11 s.draws)
    csumCnt := BitVec.ofNat 6 (Config.freeRegister 12 s.draws)
    csumStored := BitVec.ofNat 32 (Config.freeRegister 13 s.draws)
    totalOut := BitVec.ofNat 64 (Config.freeRegister 14 s.draws)
    adlerA := BitVec.ofNat 16 (Config.freeRegister 15 s.draws)
    adlerB := BitVec.ofNat 16 (Config.freeRegister 16 s.draws)
    freq :=
      { ctrl := freeCounters 0 Config.nCtrl s.draws
        lit := freeCounters 1 Config.nLit s.draws
        len := freeCounters 2 Config.nLen s.draws
        slot := freeCounters 3 (Config.nSlot dict.toNat) s.draws }
    win := []
    draws := s.draws + 1
    phase := .uninit }

end Sys2Proof.Machine
end

