-- ==== Sys2Proof/Machine/ModelBank.lean ====
section
/-! DEFINITION. The adaptive model bank (`41_model_bank.md`). -/

namespace Sys2Proof.Machine

/-- The sum of a list of counters; `TOT(c)` is that of `FREQ[c]` (`10_state.md` R44). -/
def total (f : List Counter) : Nat := (f.map BitVec.toNat).sum

/-- `CUM(c, s)`, the sum of the counters below `s` (`10_state.md` R44). -/
def cumBelow (f : List Counter) (s : Nat) : Nat := total (f.take s)

/-- probability_for(c): the frequency list and its total (`41_model_bank.md` R162). -/
def probabilityFor (c : Ctx) (s : State) : List Counter × Nat := (s.freq.get c, total (s.freq.get c))

/-- The observed symbol's counter gains `INC` (`41_model_bank.md` R163). -/
def bump (f : List Counter) (sym : Nat) : List Counter :=
  f.modify sym (fun x => BitVec.ofNat 17 (x.toNat + Config.inc))

/-- Rescale: every counter halved, rounding up (`41_model_bank.md` R164). -/
def rescale (f : List Counter) : List Counter := f.map (fun x => BitVec.ofNat 17 ((x.toNat + 1) >>> 1))

/-- The counters of a model after its symbol `sym` was decoded: the increment, then at most one rescale, when the
total exceeds the threshold of the rate class (`41_model_bank.md` R163, R164). -/
def updated (rate : Nat) (f : List Counter) (sym : Nat) : List Counter :=
  if Config.tmax rate < total (bump f sym) then rescale (bump f sym) else bump f sym

/-- ModelUpdate(c, sym) (`41_model_bank.md` R163). -/
def modelUpdate (c : Ctx) (sym : Nat) (s : State) : State :=
  s.setFreq c (updated s.cfgRate.toNat (s.freq.get c) sym)

end Sys2Proof.Machine
end

