-- ==== Sys2Proof/Machine/RangeDecoder.lean ====
section
/-! DEFINITION. The bit/range decoder (`40_range_decoder.md`). Every intermediate is an exact natural (R130).
Outside the preconditions the same expressions are computed (log entry 11). -/

namespace Sys2Proof.Machine

/-- RC_LOAD, its byte taken (`40_range_decoder.md` R132). The first byte must be 0x00; the later ones go into `CODE`. -/
def rcLoad (s : State) : Micro :=
  let b := s.nextByte
  let s1 := s.takeByte
  if s.initCnt = 0 then
    if b = 0 then .cont { s1 with initCnt := s.initCnt + 1 } else raiseFail .corruptFormat s1
  else .cont { s1 with code := codeWithByte s.code b, initCnt := s.initCnt + 1 }

/-- RC_NORM, its byte taken (`40_range_decoder.md` R134). -/
def rcNorm (s : State) : State :=
  s.takeByte.setCoder (s.range <<< 8) (codeWithByte s.code s.nextByte)

/-- The largest symbol whose `CUM` is at most `v`, for `v` below the total (`40_range_decoder.md` R135, R143). -/
def symbolAt : List Counter → Nat → Nat
  | [], _ => 0
  | f :: fs, v => if v < f.toNat then 0 else symbolAt fs (v - f.toNat) + 1

/-- A decode's result: the symbol and the coder's new registers. -/
structure Decoded where
  sym : Nat
  range : Word
  code : Word
  deriving DecidableEq, Repr

/-- DecodeFreq(F, T) with `T = total F` (`40_range_decoder.md` R135); `none` is FAIL_CORRUPT_SYMBOL, nothing written. -/
def decodeFreq (f : List Counter) (range code : Word) : Option Decoded :=
  let r := range.toNat / total f
  let v := code.toNat / r
  if total f ≤ v then none
  else
    let sym := symbolAt f v
    some
      { sym := sym
        range := BitVec.ofNat 32 (r * (f.getD sym 0).toNat)
        code := BitVec.ofNat 32 (code.toNat - r * cumBelow f sym) }

/-- DecodeModel(c): the decode and the model's update, one atomic step (`40_range_decoder.md` R136). -/
def decodeModel (c : Ctx) (s : State) : Option (Nat × State) :=
  match decodeFreq (s.freq.get c) s.range s.code with
  | none => none
  | some d => some (d.sym, modelUpdate c d.sym (s.setCoder d.range d.code))

/-- DecodeDirect: one direct bit, no model (`40_range_decoder.md` R137). -/
def decodeDirect (s : State) : Option (Nat × State) :=
  let r := s.range.toNat >>> 1
  let v := s.code.toNat / r
  if 2 ≤ v then none
  else some (v, s.setCoder (BitVec.ofNat 32 r) (BitVec.ofNat 32 (s.code.toNat - r * v)))

/-- RC_SYNC: the check passes when `CODE` is 0 (`40_range_decoder.md` R138). -/
def rcSync (s : State) : Bool := s.code == 0

end Sys2Proof.Machine
end

