-- ==== Sys2Proof/Machine/Window.lean ====
section
/-! DEFINITION. The history window and the checksum accumulator (`42_history_window.md`). -/

namespace Sys2Proof.Machine

/-- AdlerUpdate(b) (`42_history_window.md` R192): the new `ADLER_A`. -/
def adlerNextA (a : BitVec 16) (b : Byte) : BitVec 16 :=
  BitVec.ofNat 16 ((a.toNat + b.toNat) % Config.adlerMod)

/-- AdlerUpdate(b) (`42_history_window.md` R192): the new `ADLER_B`, from the new `ADLER_A`. -/
def adlerNextB (a b' : BitVec 16) (b : Byte) : BitVec 16 :=
  BitVec.ofNat 16 ((b'.toNat + (adlerNextA a b).toNat) % Config.adlerMod)

/-- AdlerUpdate(b) (`42_history_window.md` R192). -/
def adlerUpdate (b : Byte) (s : State) : State :=
  { s with adlerA := adlerNextA s.adlerA b, adlerB := adlerNextB s.adlerA s.adlerB b }

/-- `WPOS`, where the next byte goes (`42_history_window.md` R190). -/
def State.writePos (s : State) : Nat := s.totalOut.toNat % s.cap

/-- The writes of Produce(b), in order (`42_history_window.md` R191). -/
def produced (b : Byte) (s : State) : State :=
  State.outByte b
    (adlerUpdate b { s with win := Memory.write s.win s.writePos b, totalOut := s.totalOut + 1 })

/-- Produce(b) (`42_history_window.md` R191); `none` when `TOTAL_OUT` would pass `2^64 - 1`, where the model faults
(`93_implementation_defined.md` U6; log entry 7). -/
def produce (b : Byte) (s : State) : Option State :=
  if s.totalOut.toNat + 1 < 2 ^ 64 then some (produced b s) else none

/-- The window index a match reads next (`42_history_window.md` R193). -/
def State.copyPos (s : State) : Nat := (s.totalOut.toNat - s.mdist.toNat) % s.cap

/-- CopyByte: the read comes before Produce's write (`42_history_window.md` R193). -/
def copyByte (s : State) : Option State := produce (s.winRead s.copyPos) s

/-- DistCheck(d) passes (`42_history_window.md` R194, `90_conflicts.md` C1): the distance alone is checked. -/
def distOk (d : Word) (s : State) : Bool := decide (d.toNat ≤ s.totalOut.toNat) && decide (d.toNat ≤ s.cap)

end Sys2Proof.Machine
end

