-- ==== Sys2Proof/Machine/Driver.lean ====
section
/-! DEFINITION. The decode driver: one definition per micro-step, the dispatch on `DSTATE`, and the STEP loop
(`43_decode_driver.md` R210-R227; time is left out, log entry 20). -/

namespace Sys2Proof.Machine

/-- MS_RC_INIT (`43_decode_driver.md` R213). -/
def msRcInit (s : State) : Micro :=
  if s.inAvail then
    match rcLoad s with
    | .cont s1 => .cont (if s1.initCnt.toNat = Config.rcInitBytes then s1.goto .ctrl else s1)
    | m => m
  else needIn s

/-- MS_NORM (`43_decode_driver.md` R214). -/
def msNorm (s : State) : Micro := if s.inAvail then .cont (rcNorm s) else needIn s

/-- MS_CTRL: the symbol dispatcher (`43_decode_driver.md` R215, `30_encoding.md` R100). -/
def msCtrl (s : State) : Micro :=
  match decodeModel .ctrl s with
  | none => raiseFail .corruptSymbol s
  | some (sym, s1) =>
    match sym with
    | 0 => .cont (s1.goto .lit)
    | 1 => .cont (s1.goto .len)
    | _ => .cont { s1 with csumCnt := BitVec.ofNat 6 Config.csumBits, csumStored := 0, dstate := .csum }

/-- MS_LIT (`43_decode_driver.md` R216). -/
def msLit (s : State) : Micro :=
  match decodeModel .lit s with
  | none => raiseFail .corruptSymbol s
  | some (sym, s1) => .cont { s1 with pendByte := literalOf sym, dstate := .emit }

/-- MS_EMIT (`43_decode_driver.md` R217). -/
def msEmit (s : State) : Micro :=
  if s.outAvail then
    match produce s.pendByte s with
    | none => .fault .totalOutOverflow
    | some s1 => .cont (s1.goto .ctrl)
  else suspendOutput s

/-- MS_LEN (`43_decode_driver.md` R218). -/
def msLen (s : State) : Micro :=
  match decodeModel .len s with
  | none => raiseFail .corruptSymbol s
  | some (sym, s1) => .cont { s1 with mlen := lengthOf sym, dstate := .slot }

/-- What follows the last distance field: DistCheck of `MDIST`, then COPY (`43_decode_driver.md` R219, R220). -/
def distanceDone (s : State) : Micro :=
  if distOk s.mdist s then .cont (s.goto .copy) else raiseFail .corruptDistance s

/-- MS_SLOT (`43_decode_driver.md` R219). -/
def msSlot (s : State) : Micro :=
  match decodeModel .slot s with
  | none => raiseFail .corruptSymbol s
  | some (sym, s1) =>
    let s2 := { s1 with mdist := 1, xbits := BitVec.ofNat 5 sym }
    if sym = 0 then distanceDone s2 else .cont (s2.goto .extra)

/-- MS_EXTRA (`43_decode_driver.md` R220). -/
def msExtra (s : State) : Micro :=
  match decodeDirect s with
  | none => raiseFail .corruptSymbol s
  | some (bit, s1) =>
    let s2 := { s1 with mdist := distanceWithBit s.mdist bit, xbits := s.xbits - 1 }
    if s2.xbits = 0 then distanceDone s2 else .cont s2

/-- MS_COPY (`43_decode_driver.md` R221). -/
def msCopy (s : State) : Micro :=
  if s.outAvail then
    match copyByte s with
    | none => .fault .totalOutOverflow
    | some s1 =>
      let s2 := { s1 with mlen := s.mlen - 1 }
      .cont (if s2.mlen = 0 then s2.goto .ctrl else s2)
  else suspendOutput s

/-- MS_CSUM (`43_decode_driver.md` R222, `90_conflicts.md` C4): compared after the last bit, when enabled. -/
def msCsum (s : State) : Micro :=
  match decodeDirect s with
  | none => raiseFail .corruptSymbol s
  | some (bit, s1) =>
    let s2 := { s1 with csumStored := storedWithBit s.csumStored bit, csumCnt := s.csumCnt - 1 }
    if s2.csumCnt = 0 then
      if s2.cfgCsumEn = 1 ∧ s2.csumStored ≠ s2.csumComputed then raiseFail .checksum s2
      else .cont (s2.goto .tail)
    else .cont s2

/-- MS_TAIL (`43_decode_driver.md` R223). -/
def msTail (s : State) : Micro :=
  if rcSync s then finish (s.goto .done) else raiseFail .corruptFormat s

/-- The next micro-step, by `DSTATE` (`43_decode_driver.md` R211): a state whose body decodes or checks the sync
renormalises first while `RANGE < RC_TOP` (R214). DONE has no micro-step (R224; log entry 8). -/
def microStep (s : State) : Micro :=
  match s.dstate with
  | .rcInit => msRcInit s
  | .ctrl => if s.needsNorm then msNorm s else msCtrl s
  | .lit => if s.needsNorm then msNorm s else msLit s
  | .len => if s.needsNorm then msNorm s else msLen s
  | .slot => if s.needsNorm then msNorm s else msSlot s
  | .extra => if s.needsNorm then msNorm s else msExtra s
  | .csum => if s.needsNorm then msNorm s else msCsum s
  | .tail => if s.needsNorm then msNorm s else msTail s
  | .emit => msEmit s
  | .copy => msCopy s
  | .done => .fault .noMicroStep

/-- Run(), at most `n` micro-steps (`43_decode_driver.md` R210, R211): the first one that does not continue ends it. -/
def runLoop : Nat → State → Micro
  | 0, _ => .fault .stepBoundExceeded
  | n + 1, s =>
    match microStep s with
    | .cont s1 => runLoop n s1
    | m => m

/-- A bound on the micro-steps of a STEP, in any state, above that of `43_decode_driver.md` R233 (log entry 5). -/
def loopBound (input : List Byte) (ocap : Nat) : Nat := input.length + 40 * ocap + 128

/-- The start of a STEP: its cursor is opened and `PHASE` becomes DECODING (`43_decode_driver.md` R210). -/
def startStep (final : Bool) (input : List Byte) (ocap : Nat) (s : State) : State :=
  (s.openCursor final input ocap).setPhase .decoding

/-- Run() of one STEP (`43_decode_driver.md` R210). -/
def runStep (final : Bool) (input : List Byte) (ocap : Nat) (s : State) : Micro :=
  runLoop (loopBound input ocap) (startStep final input ocap s)

end Sys2Proof.Machine
end

