-- ==== Sys2Proof/Machine/HostCommands.lean ====
section
/-! DEFINITION. The host's commands (`44_host_commands.md`). Each checks in the order of R260; a refused command
writes no state. -/

namespace Sys2Proof.Machine

/-- VERSION (`44_host_commands.md` R262). -/
def execVersion (s : State) : Host.Outcome State Fault Refusal :=
  answer (statusValue .okay Config.engineVersion) s

/-- What INIT and REINIT share once the phase allows them (`44_host_commands.md` R264, R265). -/
def startSession (p : Word) (s : State) : Host.Outcome State Fault Refusal :=
  if paramValid p then answer (statusOnly .okay) (sessionReset p s) else answer (statusOnly .invalidParam) s

/-- INIT P (`44_host_commands.md` R264): in every phase. -/
def execInit (p : Word) (s : State) : Host.Outcome State Fault Refusal := startSession p s

/-- REINIT P (`44_host_commands.md` R265): in every phase but UNINIT. -/
def execReinit (p : Word) (s : State) : Host.Outcome State Fault Refusal :=
  if s.phase = .uninit then answer (statusOnly .usage) s else startSession p s

/-- DEINIT (`44_host_commands.md` R266). -/
def execDeinit (s : State) : Host.Outcome State Fault Refusal :=
  if s.phase = .uninit then answer (statusOnly .usage) s else answer (statusOnly .okay) (release s)

/-- STEP IN, OCAP[, final] (`44_host_commands.md` R267, `43_decode_driver.md` R227). -/
def execStep (final : Bool) (input : List Byte) (ocap : Nat) (s : State) : Host.Outcome State Fault Refusal :=
  match s.phase with
  | .uninit => answer (statusOnly .usage) s
  | .success => answer (statusOnly .success) s
  | .failed => answer { status := statusWord s.err, value := none, consumed := 0, produced := [] } s
  | _ => closeMicro (runStep final input ocap s)

/-- QUERY idx (`44_host_commands.md` R268). -/
def execQuery (qidx : BitVec 4) (s : State) : Host.Outcome State Fault Refusal :=
  if 6 ≤ qidx.toNat then badCommand s
  else if s.phase = .uninit ∧ qidx ≠ 0 then answer (statusValue .usage 0) s
  else answer (statusValue .okay (s.observed qidx.toNat)) s

/-- A word of opcode 0x6 or 0x7 (`44_host_commands.md` R269). -/
def execReservedOp67 (_word : Word) (s : State) : Host.Outcome State Fault Refusal := badCommand s

/-- A word of opcode 0x8 to 0xF (`44_host_commands.md` R269). -/
def execReservedOp8F (_word : Word) (s : State) : Host.Outcome State Fault Refusal := badCommand s

/-- The result of ONESHOT from the status its STEP returned and the state the STEP left
(`44_host_commands.md` R270, R271). -/
def oneshotResult (c : Status) (wantCsum : Bool) (s : State) : Response :=
  match c with
  | .success =>
    { status := statusWord Status.success.code
      value := if wantCsum then some s.csumComputed else none
      consumed := 0
      produced := s.out }
  | .needOutputSpace =>
    { status := statusWord Status.destTooSmall.code, value := none, consumed := 0, produced := s.out }
  | c => { status := statusWord c.code, value := none, consumed := 0, produced := s.out }

/-- ONESHOT P, src, cap, want_csum (`44_host_commands.md` R270): on a free instance INIT, one STEP with all of `src`
and `FINAL`, QUERY CSUM, DEINIT. The procedure returns one result; the commands inside it return theirs to the
procedure (log entry 15). -/
def execOneshot (p : Word) (src : List Byte) (cap : Nat) (wantCsum : Bool) (s : State) :
    Host.Outcome State Fault Refusal :=
  if s.phase ≠ .uninit then answer (statusOnly .usage) s
  else if paramValid p then
    match runStep true src cap (sessionReset p s) with
    | .stop c s1 => answer (oneshotResult c wantCsum s1) (release s1).closeCursor
    | .cont _ => .fault .stepBoundExceeded
    | .fault f => .fault f
  else answer (statusOnly .invalidParam) s

end Sys2Proof.Machine
end

