-- ==== Sys2Proof/Machine/Items.lean ====
section
/-! DEFINITION. The stream items LIT, MATCH and EOS: the instruction-level view of a running STEP
(`43_decode_driver.md` R229-R231). The item the stream holds next is read by the driver's own micro-steps; executing
it is those micro-steps and the ones that follow, to the item's end or the STEP's (log entry 6). -/

namespace Sys2Proof.Machine

/-- Every field of the current item has been decoded (`30_encoding.md` R99). -/
def State.fieldsRead (s : State) : Bool := s.dstate == .emit || s.dstate == .copy || s.dstate == .tail

/-- The micro-steps of an item's fields, at most `n`: the outcome of the last of them. `none` where the input ends or
a decode fails before the last field. The last field's own check may fail the STEP: the distance's or the checksum's
(`60_exceptions.md` R310). -/
def readFields : Nat → State → Option Micro
  | 0, _ => none
  | n + 1, s =>
    match microStep s with
    | .cont s1 => if s1.fieldsRead then some (.cont s1) else readFields n s1
    | .stop .corruptDistance s1 => some (.stop .corruptDistance s1)
    | .stop .checksum s1 => some (.stop .checksum s1)
    | _ => none

/-- The item whose fields the driver's registers hold (`10_state.md` R35-R40). -/
def State.itemRead (s : State) : Instr :=
  match s.dstate with
  | .emit => .lit s.pendByte
  | .copy => .matchItem s.mlen.toNat s.mdist.toNat
  | .slot => .matchItem s.mlen.toNat s.mdist.toNat
  | .extra => .matchItem s.mlen.toNat s.mdist.toNat
  | _ => .eos s.csumStored

/-- The item the running STEP's stream holds next, read at an item boundary, and the outcome of reading its fields. -/
def readItem (s : State) : Option (Instr × Micro) :=
  if s.phase = .decoding ∧ s.dstate = .ctrl then
    match readFields (loopBound s.input 0) s with
    | some (.cont s1) => some (s1.itemRead, .cont s1)
    | some (.stop c s1) => some (s1.itemRead, .stop c s1)
    | _ => none
  else none

/-- The micro-steps after an item's fields, at most `n`: to the next item boundary, or to the end of the STEP. -/
def finishItem : Nat → State → Micro
  | 0, _ => .fault .stepBoundExceeded
  | n + 1, s =>
    match microStep s with
    | .cont s1 => if s1.dstate = .ctrl then .cont s1 else finishItem n s1
    | m => m

/-- A bound on `finishItem`: the longest match, and the tail's bytes. -/
def finishBound (s : State) : Nat := s.input.length + 514

/-- Execute the item `i`: it must be the one the stream holds next (log entry 6). -/
def runItem (i : Instr) (s : State) : Host.Outcome State Fault Refusal :=
  match readItem s with
  | some (j, m) =>
    if j = i then
      match m with
      | .cont s1 => closeMicro (finishItem (finishBound s1) s1)
      | m => closeMicro m
    else .fault .itemNotInStream
  | none => .fault .itemNotInStream

/-- LIT b (`43_decode_driver.md` R229): CTRL, LIT, then EMIT. -/
def execLit (b : Byte) (s : State) : Host.Outcome State Fault Refusal := runItem (.lit b) s

/-- MATCH len=L, dist=d (`43_decode_driver.md` R230): CTRL, LEN, SLOT, the EXTRAs, then the COPYs. -/
def execMatchItem (len dist : Nat) (s : State) : Host.Outcome State Fault Refusal := runItem (.matchItem len dist) s

/-- EOS csum=x (`43_decode_driver.md` R231): CTRL, 32 times CSUM, then TAIL. -/
def execEos (csum : Word) (s : State) : Host.Outcome State Fault Refusal := runItem (.eos csum) s

end Sys2Proof.Machine
end

