-- ==== Sys2Proof/Machine/Dispatch.lean ====
section
/-! DEFINITION. One arm per instruction. -/

namespace Sys2Proof.Machine

def exec (i : Instr) (s : State) : Host.Outcome State Fault Refusal :=
  match i with
  | .version => Sys2Proof.Machine.execVersion s
  | .init p => Sys2Proof.Machine.execInit p s
  | .reinit p => Sys2Proof.Machine.execReinit p s
  | .deinit => Sys2Proof.Machine.execDeinit s
  | .step f inp oc => Sys2Proof.Machine.execStep f inp oc s
  | .query q => Sys2Proof.Machine.execQuery q s
  | .reservedOp67 w => Sys2Proof.Machine.execReservedOp67 w s
  | .reservedOp8F w => Sys2Proof.Machine.execReservedOp8F w s
  | .lit b => Sys2Proof.Machine.execLit b s
  | .matchItem l d => Sys2Proof.Machine.execMatchItem l d s
  | .eos x => Sys2Proof.Machine.execEos x s
  | .oneshot p src cap want => Sys2Proof.Machine.execOneshot p src cap want s

end Sys2Proof.Machine
end

