-- ==== Sys2Proof/Machine/Fetch.lean ====
section
/-! DEFINITION. What the machine executes next. Between commands: the host's next request (`44_host_commands.md`
R260). While a STEP runs: the next item of its stream, or, where the item cannot be read whole, one micro-step
(`43_decode_driver.md` R210, R211; log entries 4 and 6). -/

namespace Sys2Proof.Machine

/-- The first request is taken. -/
def State.takeRequest (s : State) : State := { s with requests := s.requests.tail }

/-- Take and run the host's next request. A word the decoder rejects is answered FAIL_BAD_COMMAND and writes no state
(`44_host_commands.md` R260, R269). With no request the core idles and keeps its state (`60_exceptions.md` R320). -/
def hostStep (s : State) : Host.Outcome State Fault Refusal :=
  match s.requests with
  | [] => .next s
  | q :: _ =>
    match decode (.request q) with
    | .ok i => exec i s.takeRequest
    | .error _ => badCommand s.takeRequest

/-- Run the inside of a STEP: the next item if the stream holds it whole, else the next micro-step. -/
def streamStep (s : State) : Host.Outcome State Fault Refusal :=
  match readItem s with
  | some (i, _) => exec i s
  | none => closeMicro (microStep s)

/-! ## Placing an instruction where `step` takes its next one (log entry 14) -/

/-- A request placed first. A running STEP is suspended: the host issues no command while one runs
(`70_reset_and_hazards.md` R344). -/
def placeRequest (q : Request) (s : State) : State :=
  { s with requests := q :: s.requests, phase := if s.phase = .decoding then .needInput else s.phase }

/-- The smallest valid PARAM word: dictionary class 4, rate 0, checksum off (`30_encoding.md` R95). -/
def smallestParam : Word := 0x00000004

/-- A STEP at an item boundary whose stream holds the item with control symbol `ctrl` and zero operand fields: `CODE`
is the low end of the symbol's interval and every later stream byte is 0, so every later decode gives 0
(`40_range_decoder.md` R135, R137); the stream's five initial bytes count as loaded. A session is started first where there is none. -/
def placeItem (ctrl : Nat) (s : State) : State :=
  let s1 := if s.phase = .uninit then sessionReset smallestParam s else s
  let r := Config.rangeInit.toNat / total s1.freq.ctrl
  let s2 := s1.setCoder Config.rangeInit (BitVec.ofNat 32 (r * cumBelow s1.freq.ctrl ctrl))
  let s3 := { s2 with initCnt := BitVec.ofNat 3 Config.rcInitBytes }
  ((s3.openCursor false (List.replicate 16 0) Config.minMatch).setPhase .decoding).goto .ctrl

/-- An encoding placed where `step` takes its next instruction. -/
def placeCode (c : Code) (s : State) : State :=
  match c with
  | .request q => placeRequest q s
  | .symbols fields => placeItem (fields.headD 0) s

end Sys2Proof.Machine
end

