-- ==== Sys2Proof/Machine/Step.lean ====
section
/-! DEFINITION. One step of the machine: the inside of a STEP while one runs (`PHASE = DECODING`), the host's next
request otherwise, so that a command issued while a STEP runs waits (log entry 17). -/

namespace Sys2Proof.Machine

def step (s : State) : Host.Outcome State Fault Refusal :=
  if s.phase = .decoding then streamStep s else hostStep s

/-- `s` with the instruction whose opcode-table bits are `w` placed where `step` takes its next one. -/
def State.withFetchWord (s : State) (nbits w : Nat) : State := placeCode (tableCode nbits w) s

end Sys2Proof.Machine
end

