-- ==== Sys2Proof/Machine/Platform.lean ====
section
/-! DEFINITION. A platform of independent core instances (`60_exceptions.md` R318, `20_memory.md` R76; log entry 10).
The only thing they share is the initial table, a constant. -/

namespace Sys2Proof.Machine

/-- The instances of a platform. -/
structure Platform where
  cores : List State
  deriving DecidableEq, Repr

/-- Every instance powers up in UNINIT (`60_exceptions.md` R318). -/
def Platform.reset : Platform := { cores := List.replicate Config.numInstances State.reset }

/-- One step of the instance numbered `k`; where there is none, nothing happens. -/
def Platform.stepAt (k : Nat) (p : Platform) : Host.Outcome Platform Fault Refusal :=
  match p.cores[k]? with
  | none => .next p
  | some s =>
    match step s with
    | .next t => .next { cores := p.cores.set k t }
    | .fault f => .fault f
    | .refused r => .refused r

end Sys2Proof.Machine
end

