-- ==== Sys2Proof/Safety.lean ====
section
/-! DEFINITION. The invariant every step keeps, from the laws the spec states of the registers, and the words the
claims use. All of it is decidable, so a concrete state can be tested. -/

namespace Sys2Proof.Machine

/-! ## The invariant -/

/-- Every counter is at least 1, so every symbol can be decoded (`41_model_bank.md` R162, R166). -/
def positive (f : List Counter) : Bool := f.all (fun x => decide (1 ≤ x.toNat))

/-- A model of `n` symbols at a rate class (`41_model_bank.md` R166). -/
abbrev modelOk (rate n : Nat) (f : List Counter) : Prop :=
  f.length = n ∧ positive f = true ∧ total f ≤ Config.tmax rate

/-- Legal configuration (`10_state.md` R23, R24). -/
abbrev State.configOk (s : State) : Prop :=
  Config.dictLog2Min ≤ s.cfgDictLog2.toNat ∧ s.cfgDictLog2.toNat ≤ Config.dictLog2Max
    ∧ s.cfgRate.toNat < Config.numRateClasses

/-- The four models (`10_state.md` R43, `41_model_bank.md` R166). -/
abbrev State.bankOk (s : State) : Prop :=
  modelOk s.cfgRate.toNat Config.nCtrl s.freq.ctrl ∧ modelOk s.cfgRate.toNat Config.nLit s.freq.lit
    ∧ modelOk s.cfgRate.toNat Config.nLen s.freq.len
    ∧ modelOk s.cfgRate.toNat (Config.nSlot s.cfgDictLog2.toNat) s.freq.slot

/-- The range decoder (`10_state.md` R31-R34, `40_range_decoder.md` R132, R139). -/
abbrev State.coderOk (s : State) : Prop :=
  (s.dstate = .rcInit →
    s.range = Config.rangeInit ∧ s.initCnt.toNat < Config.rcInitBytes ∧ s.code.toNat < 256 ^ (s.initCnt.toNat - 1))
  ∧ (s.dstate ≠ .rcInit →
    s.initCnt.toNat = Config.rcInitBytes ∧ 2 ^ 8 ≤ s.range.toNat
      ∧ (s.code.toNat < s.range.toNat ∨ s.range = Config.rangeInit))

/-- The match registers (`10_state.md` R36-R38, `42_history_window.md` R193, `43_decode_driver.md` R219-R221). -/
abbrev State.matchOk (s : State) : Prop :=
  s.mlen.toNat ≤ 257 ∧ s.mdist.toNat < 2 ^ (s.cfgDictLog2.toNat + 1) ∧ s.xbits.toNat ≤ s.cfgDictLog2.toNat
  ∧ (s.dstate = .slot → 2 ≤ s.mlen.toNat)
  ∧ (s.dstate = .extra →
    2 ≤ s.mlen.toNat ∧ 1 ≤ s.mdist.toNat ∧ s.mdist.toNat * 2 ^ s.xbits.toNat < 2 ^ (s.cfgDictLog2.toNat + 1)
      ∧ (s.phase ≠ .failed → 1 ≤ s.xbits.toNat))
  ∧ (s.dstate = .copy →
    1 ≤ s.mlen.toNat ∧ 1 ≤ s.mdist.toNat ∧ s.mdist.toNat ≤ s.totalOut.toNat ∧ s.mdist.toNat ≤ s.cap)

/-- The stored-checksum registers (`10_state.md` R39, R40, `43_decode_driver.md` R222): past the last bit, the stored
checksum has passed its comparison wherever it is compared. -/
abbrev State.storedOk (s : State) : Prop :=
  s.csumCnt.toNat ≤ Config.csumBits
  ∧ (s.dstate = .tail ∨ s.dstate = .done →
    s.csumCnt = 0 ∧ (s.cfgCsumEn = 1 → s.csumStored = s.csumComputed))
  ∧ (s.dstate = .csum →
    s.csumStored.toNat < 2 ^ (Config.csumBits - s.csumCnt.toNat) ∧ (s.phase ≠ .failed → 1 ≤ s.csumCnt.toNat))

/-- The running checksum (`10_state.md` R42). -/
abbrev State.adlerOk (s : State) : Prop :=
  s.adlerA.toNat < Config.adlerMod ∧ s.adlerB.toNat < Config.adlerMod

/-- The window: written exactly at the indices of the last `CAP` bytes produced (`42_history_window.md` R190). -/
abbrev State.windowOk (s : State) : Prop := s.win.map Prod.fst = List.range (min s.totalOut.toNat s.cap)

/-- `PHASE` against `DSTATE` and `ERR` (`10_state.md` R28, R29, `43_decode_driver.md` R224, R225). -/
abbrev State.phaseOk (s : State) : Prop :=
  (s.phase = .success ↔ s.dstate = .done)
  ∧ (s.phase = .failed ↔ s.err ≠ 0)
  ∧ (s.err = 0 ∨ (0x20 ≤ s.err.toNat ∧ s.err.toNat ≤ 0x24))
  ∧ (s.phase = .ready → s.dstate = .rcInit ∧ s.initCnt = 0 ∧ s.totalOut = 0)
  ∧ (s.phase = .needInput → s.dstate ≠ .emit ∧ s.dstate ≠ .copy)
  ∧ (s.phase = .needOutputSpace → s.dstate = .emit ∨ s.dstate = .copy)

/-- A live session. -/
abbrev State.sessionOk (s : State) : Prop :=
  s.configOk ∧ s.bankOk ∧ s.coderOk ∧ s.matchOk ∧ s.storedOk ∧ s.adlerOk ∧ s.windowOk ∧ s.phaseOk

/-- No STEP runs: the cursor is discarded (`10_state.md` R47). -/
abbrev State.cursorClosed (s : State) : Prop :=
  s.input = [] ∧ s.ipos = 0 ∧ s.out = [] ∧ s.ocap = 0 ∧ s.final = false

/-- The cursor of a running STEP is within its bounds (`44_host_commands.md` R267); between commands it is empty. -/
abbrev State.cursorOk (s : State) : Prop :=
  if s.phase = .decoding then s.ipos ≤ s.input.length ∧ s.out.length ≤ s.ocap else s.cursorClosed

/-- The invariant. Nothing is asked of the registers in UNINIT, where they are unspecified (`10_state.md` R50). -/
abbrev State.Inv (s : State) : Prop :=
  Memory.wf s.win = true ∧ s.cursorOk ∧ (s.phase ≠ .uninit → s.sessionOk)

/-! ## Words the claims use -/

/-- A phase in which a STEP runs the loop (`43_decode_driver.md` R210). -/
abbrev Phase.resumable (p : Phase) : Prop := p = .ready ∨ p = .needInput ∨ p = .needOutputSpace

/-- A sub-state whose micro-step decodes or checks the sync, so that it renormalises first
(`43_decode_driver.md` R214). -/
abbrev DState.decodes (d : DState) : Prop :=
  d = .ctrl ∨ d = .lit ∨ d = .len ∨ d = .slot ∨ d = .extra ∨ d = .csum ∨ d = .tail

/-- A stream failure (`30_encoding.md` R96, class 2). -/
abbrev Status.isFailure (c : Status) : Prop :=
  c = .truncated ∨ c = .corruptFormat ∨ c = .corruptSymbol ∨ c = .corruptDistance ∨ c = .checksum

/-- Two states that differ at most in the model's own fields: the host's queue, the results and the draw number. -/
abbrev State.agrees (s t : State) : Prop :=
  { s with requests := [], responses := [], draws := 0 } = { t with requests := [], responses := [], draws := 0 }

/-- The registers of the running checksum after a list of bytes (`42_history_window.md` R192). -/
def adlerFold (a b : BitVec 16) : List Byte → BitVec 16 × BitVec 16
  | [] => (a, b)
  | x :: xs => adlerFold (adlerNextA a x) (adlerNextB a b x) xs

/-- The numbers of `PHASE` (`10_state.md` R27). -/
def phaseNumber : Phase → Nat
  | .uninit => 0
  | .ready => 1
  | .decoding => 2
  | .needInput => 3
  | .needOutputSpace => 4
  | .success => 5
  | .failed => 6

/-- The result of a command that returns a status code alone, and of one that returns a value as well. -/
abbrev statusResult (c : Word) : Response := { status := c, value := none, consumed := 0, produced := [] }
abbrev valueResult (c v : Word) : Response := { status := c, value := some v, consumed := 0, produced := [] }

/-- `s` with one more result returned, nothing else changed. -/
abbrev State.returning (s : State) (r : Response) : State := { s with responses := s.responses ++ [r] }

/-- The byte of `IN` a byte-consuming micro-step takes. -/
abbrev State.inputByte (s : State) : Byte := s.input.getD s.ipos 0

/-- The checksum's registers after one more byte, as numbers (`42_history_window.md` R192). -/
abbrev AdlerStep (b : Byte) (s t : State) : Prop :=
  t.adlerA.toNat = (s.adlerA.toNat + b.toNat) % 65521
  ∧ t.adlerB.toNat = (s.adlerB.toNat + (s.adlerA.toNat + b.toNat) % 65521) % 65521

/-- The writes of Produce(b), from `s` to `t`, and what they leave alone (`42_history_window.md` R191, R192): the
window's byte at `TOTAL_OUT mod CAP` and no other, the count, the checksum, the output. -/
abbrev ProducedByte (b : Byte) (s t : State) : Prop :=
  Memory.read t.win (s.totalOut.toNat % 2 ^ s.cfgDictLog2.toNat) = some b
  ∧ (∀ i, i ≠ s.totalOut.toNat % 2 ^ s.cfgDictLog2.toNat → Memory.read t.win i = Memory.read s.win i)
  ∧ t.totalOut.toNat = s.totalOut.toNat + 1 ∧ AdlerStep b s t ∧ t.out = s.out ++ [b]

/-- `PARAM` is valid, read off its bits as numbers (`30_encoding.md` R94, R95). -/
abbrev paramLegal (p : Word) : Prop :=
  p &&& 0xFFFEF0E0 = 0 ∧ 4 ≤ p.toNat % 32 ∧ p.toNat % 32 ≤ 24 ∧ p.toNat / 256 % 16 < 4

/-- The state a successful INIT or REINIT with `PARAM` `p` leaves, from the state before it: the "after INIT / REINIT"
column of `10_state.md` R50 (WIN, which it leaves unspecified, is not spoken of), the rest as it was. -/
abbrev SessionStarted (p : Word) (s t : State) : Prop :=
  t.cfgDictLog2.toNat = p.toNat % 32 ∧ t.cfgRate.toNat = p.toNat / 256 % 16
  ∧ t.cfgCsumEn.toNat = p.toNat / 65536 % 2
  ∧ t.phase = .ready ∧ t.err = 0 ∧ t.dstate = .rcInit
  ∧ t.range = 0xFFFFFFFF ∧ t.code = 0 ∧ t.initCnt = 0
  ∧ t.pendByte = 0 ∧ t.mlen = 0 ∧ t.mdist = 0 ∧ t.xbits = 0 ∧ t.csumCnt = 0 ∧ t.csumStored = 0
  ∧ t.totalOut = 0 ∧ t.adlerA = 1 ∧ t.adlerB = 0
  ∧ t.freq.ctrl = List.replicate 3 1 ∧ t.freq.lit = List.replicate 256 1 ∧ t.freq.len = List.replicate 256 1
  ∧ t.freq.slot = List.replicate (p.toNat % 32 + 1) 1
  ∧ t.input = s.input ∧ t.ipos = s.ipos ∧ t.out = s.out ∧ t.ocap = s.ocap ∧ t.final = s.final
  ∧ t.requests = s.requests
  ∧ t.responses = s.responses ++ [statusResult 0x00]

/-- A command word that is illegal, read off its bits (`30_encoding.md` R91, R93). -/
abbrev wordIllegal (w : Word) : Prop :=
  6 ≤ w.toNat % 16 ∨ w &&& 0xFFFFF0E0 ≠ 0 ∨ (w.getLsbD 4 = true ∧ w.toNat % 16 ≠ 4)
    ∨ (w.toNat / 256 % 16 ≠ 0 ∧ w.toNat % 16 ≠ 5)

/-- `Run()` of a STEP has the outcome `m`: so it is at every number of micro-steps from the bound of
`43_decode_driver.md` R233 on. -/
abbrev LoopOutcome (f : Bool) (inp : List Byte) (oc : Nat) (s : State) (m : Micro) : Prop :=
  ∀ n, inp.length + (4 + s.cfgDictLog2.toNat) * oc + 35 ≤ n → runLoop n (startStep f inp oc s) = m

/-- What a STEP over `inp` with room `oc` that ran the loop from `s` leaves (`t`) and returns (`r`): one of the four
outcomes with its status, counts within the buffers, `TOTAL_OUT` counting the bytes, the configuration as it was and
the cursor discarded (`43_decode_driver.md` R227, `44_host_commands.md` R267, `70_reset_and_hazards.md` R346). -/
abbrev StepReturned (inp : List Byte) (oc : Nat) (s t : State) (r : Response) : Prop :=
  t.responses = s.responses ++ [r]
  ∧ ((t.phase = .needInput ∧ r.status = 0x01) ∨ (t.phase = .needOutputSpace ∧ r.status = 0x02)
      ∨ (t.phase = .success ∧ r.status = 0x03)
      ∨ (t.phase = .failed ∧ r.status = t.err.setWidth 32 ∧ 0x20 ≤ t.err.toNat ∧ t.err.toNat ≤ 0x24))
  ∧ r.value = none ∧ r.consumed ≤ inp.length ∧ r.produced.length ≤ oc
  ∧ t.totalOut.toNat = s.totalOut.toNat + r.produced.length
  ∧ t.cfgDictLog2 = s.cfgDictLog2 ∧ t.cfgRate = s.cfgRate ∧ t.cfgCsumEn = s.cfgCsumEn
  ∧ t.requests = s.requests ∧ t.draws = s.draws ∧ t.cursorClosed

/-- The state after `n` micro-steps that all continue (`43_decode_driver.md` R210); `none` where one does not. -/
def microAfter : Nat → State → Option State
  | 0, s => some s
  | n + 1, s =>
    match microStep s with
    | .cont t => microAfter n t
    | _ => none

/-- The micro-steps of an item's fields, from `s` to `v` (`43_decode_driver.md` R229-R231): `a` renormalisations at the
item boundary, then `b` micro-steps, at least one. The first of these decodes the control symbol; strictly between it
and `v` there is no item boundary, and a field is still to be read. -/
abbrev FieldPath (a b : Nat) (s v : State) : Prop :=
  1 ≤ b ∧ microAfter (a + b) s = some v
  ∧ (∀ j w, j < a → microAfter j s = some w → w.dstate = .ctrl ∧ w.range.toNat < 2 ^ 24)
  ∧ (∀ w, microAfter a s = some w → w.dstate = .ctrl ∧ 2 ^ 24 ≤ w.range.toNat)
  ∧ ∀ j w, a < j → j < a + b → microAfter j s = some w → w.dstate ≠ .ctrl ∧ w.fieldsRead = false

/-- `k` micro-steps after an item's fields, from `u` to `v`, with no item boundary before `v`. -/
abbrev BodyPath (k : Nat) (u v : State) : Prop :=
  microAfter k u = some v ∧ ∀ j w, j < k → microAfter j u = some w → w.dstate ≠ .ctrl

/-- A safe run: it meets no stop but the one of `TOTAL_OUT` (`60_exceptions.md` R322). -/
def SafeRun (k : Nat) (s : State) : Prop :=
  (∃ t, Host.Core.run Sys2Proof.core k s = .next t) ∨ Host.Core.run Sys2Proof.core k s = .fault .totalOutOverflow

end Sys2Proof.Machine
end

