-- ==== Sys2Proof/WellFormed.lean ====
section
/-! DEFINITION. Which terms of `Instr` are instructions the encodings can express (`30_encoding.md` R92, R102, R103). -/

namespace Sys2Proof

/-- A reserved row holds a word of its own opcodes; a MATCH has a length and a distance that a length symbol and a
slot of the largest dictionary class can code. Every other operand is well formed by its type. -/
def Instr.wellFormed : Instr → Bool
  | .version => true
  | .init _ => true
  | .reinit _ => true
  | .deinit => true
  | .step _ _ _ => true
  | .query _ => true
  | .reservedOp67 w => w.extractLsb' 0 4 == 6 || w.extractLsb' 0 4 == 7
  | .reservedOp8F w => 8 ≤ (w.extractLsb' 0 4).toNat
  | .lit _ => true
  | .matchItem len dist =>
    decide (Config.minMatch ≤ len) && decide (len < Config.minMatch + Config.nLen)
      && decide (1 ≤ dist) && decide (dist < 2 ^ (Config.dictLog2Max + 1))
  | .eos _ => true
  | .oneshot _ _ _ _ => true

end Sys2Proof
end

