-- ==== Sys2Proof/Certificates/Slice0/Obligations.lean ====
section
/-! DEFINITION. The statements for the provers, from the spec's numbered rules. -/

open Sys2Proof Sys2Proof.Machine

/-! ## Reset, the step, the invariant -/

/-- `70_reset_and_hazards.md` R340: power-on reset puts the instance in UNINIT, and QUERY PHASE reads it there
(`10_state.md` R48). Only `PHASE` is spoken of: every other reset value is the model's choice (log entry 1). -/
def Obligations.ResetIsUninit : Prop :=
  State.reset.phase = .uninit ∧ exec (.query 0) State.reset = .next (State.reset.returning (valueResult 0x00 0))

/-- The invariant of `Safety.lean` holds after reset. -/
def Obligations.ResetMeetsInvariant : Prop := State.reset.Inv

/-- Every step of the machine keeps the invariant, from every state that meets it: the counters stay positive and
their totals within the threshold (`41_model_bank.md` R166), the coder's registers within their bounds
(`40_range_decoder.md` R139), the match and checksum registers within theirs (`10_state.md` R36-R42), the window
written exactly at the last `CAP` bytes (`42_history_window.md` R190), `PHASE` agreeing with `DSTATE` and `ERR`
(`43_decode_driver.md` R224, `10_state.md` R29), and the cursor empty between commands (`10_state.md` R47). -/
def Obligations.EveryStepKeepsInvariant : Prop := ∀ s t : State, s.Inv → step s = .next t → t.Inv

/-- `60_exceptions.md` R322: no step is refused, and the only fault is the one of `TOTAL_OUT`. -/
def Obligations.StepsFaultOnlyOnOverflow : Prop :=
  ∀ s : State, s.Inv → (∀ r, step s ≠ .refused r) ∧ ∀ f, step s = .fault f → f = .totalOutOverflow

/-- Between commands a step takes the host's next request and runs the instruction it decodes to. -/
def Obligations.StepRunsDecodedRequest : Prop :=
  ∀ (s : State) (q : Request) (rest : List Request) (i : Instr), s.phase ≠ .decoding → s.requests = q :: rest →
    decode (.request q) = .ok i → step s = exec i { s with requests := rest }

/-- While a STEP runs, a step executes the item the stream holds next; where the item cannot be read whole, it runs
one micro-step (`43_decode_driver.md` R211). -/
def Obligations.StepRunsStreamItem : Prop :=
  ∀ s : State, s.phase = .decoding →
    (∀ i m, readItem s = some (i, m) → step s = exec i s) ∧ (readItem s = none → step s = closeMicro (microStep s))

/-- `60_exceptions.md` R320: with no command to run the core keeps its whole state. -/
def Obligations.IdleCoreKeepsState : Prop :=
  ∀ s : State, s.phase ≠ .decoding → s.requests = [] → step s = .next s

/-- `30_encoding.md` R93, `44_host_commands.md` R269: an illegal command word, in every phase, is answered
FAIL_BAD_COMMAND with value 0 and nothing consumed or produced, and no state changes but that the request is taken. -/
def Obligations.IllegalWordsRefused : Prop :=
  ∀ (s : State) (c : Command) (rest : List Request), s.phase ≠ .decoding → s.requests = .command c :: rest →
    wordIllegal c.cmd → step s = .next (State.returning { s with requests := rest } (valueResult 0x12 0))

/-! ## Encodings -/

/-- Decoding the encoding of a well-formed instruction gives it back, every operand at every value. -/
def Obligations.DecodeEncodeRoundTrip : Prop := ∀ i : Instr, i.wellFormed = true → decode (encode i) = .ok i

/-- Words written out from `30_encoding.md` R91, R92, R107 and fields from R99, R108 decode to their instructions. -/
def Obligations.SpecWordsDecode : Prop :=
  decode (.request (.command ⟨0x00000000, 0, [], 0⟩)) = .ok .version
  ∧ decode (.request (.command ⟨0x00000001, 0x00010004, [], 0⟩)) = .ok (.init 0x00010004)
  ∧ decode (.request (.command ⟨0x00000002, 0x00000018, [], 0⟩)) = .ok (.reinit 0x00000018)
  ∧ decode (.request (.command ⟨0x00000014, 0, [0xAA], 7⟩)) = .ok (.step true [0xAA] 7)
  ∧ decode (.request (.command ⟨0x00000405, 0, [], 0⟩)) = .ok (.query 4)
  ∧ decode (.request (.command ⟨0x80000001, 0, [], 0⟩)) = .error .reservedBit
  ∧ decode (.symbols [0, 0x41]) = .ok (.lit 0x41)
  ∧ decode (.symbols [1, 2, 2, 0, 0]) = .ok (.matchItem 4 4)
  ∧ decode (.symbols [1, 255, 0]) = .ok (.matchItem 257 1)
  ∧ decode (.symbols [3]) = .error .noSuchControl

/-! ## Host commands -/

/-- `44_host_commands.md` R262: the word 0x00000000 is VERSION, which answers OK and 0x00000001 in every phase and
writes no state. -/
def Obligations.VersionAnswers : Prop :=
  (∀ p inp oc, decode (.request (.command ⟨0x00000000, p, inp, oc⟩)) = .ok .version)
  ∧ ∀ s : State, exec .version s = .next (s.returning (valueResult 0x00 0x00000001))

/-- `44_host_commands.md` R264, R263: the word 0x00000001 and its PARAM are INIT, which in every phase starts a session
and answers OK where PARAM is valid, and otherwise answers FAIL_INVALID_PARAM and writes no state. -/
def Obligations.InitStartsSession : Prop :=
  (∀ p inp oc, decode (.request (.command ⟨0x00000001, p, inp, oc⟩)) = .ok (.init p))
  ∧ ∀ (s : State) (p : Word),
    (paramLegal p → ∃ t, exec (.init p) s = .next t ∧ SessionStarted p s t)
    ∧ (¬ paramLegal p → exec (.init p) s = .next (s.returning (statusResult 0x10)))

/-- `44_host_commands.md` R265: the word 0x00000002 and its PARAM are REINIT: FAIL_USAGE in UNINIT; in every other phase
(FAILED included) FAIL_INVALID_PARAM for an invalid PARAM, no state written either way; else a session is started. -/
def Obligations.ReinitStartsSession : Prop :=
  (∀ p inp oc, decode (.request (.command ⟨0x00000002, p, inp, oc⟩)) = .ok (.reinit p))
  ∧ ∀ (s : State) (p : Word),
    (s.phase = .uninit → exec (.reinit p) s = .next (s.returning (statusResult 0x11)))
    ∧ (s.phase ≠ .uninit → ¬ paramLegal p → exec (.reinit p) s = .next (s.returning (statusResult 0x10)))
    ∧ (s.phase ≠ .uninit → paramLegal p → ∃ t, exec (.reinit p) s = .next t ∧ SessionStarted p s t)

/-- `60_exceptions.md` R302: an invalid PARAM is answered FAIL_INVALID_PARAM and leaves every register as it was: by
INIT in any phase, by REINIT in every phase but UNINIT. -/
def Obligations.InvalidParamRefused : Prop :=
  ∀ (s : State) (p : Word), ¬ paramLegal p →
    exec (.init p) s = .next (s.returning (statusResult 0x10))
    ∧ (s.phase ≠ .uninit → exec (.reinit p) s = .next (s.returning (statusResult 0x10)))

/-- From `44_host_commands.md` R272: after INIT P and after REINIT P every register and counter is the same, whatever
the states before; the window holds no written byte in either (the model's form of its unspecified content, log
entry 3). -/
def Obligations.ReinitLeavesInitState : Prop :=
  ∀ (s s' t t' : State) (p : Word), paramLegal p → s.cursorClosed → s'.cursorClosed → s'.phase ≠ .uninit →
    exec (.init p) s = .next t → exec (.reinit p) s' = .next t' → t.agrees t'

/-- `44_host_commands.md` R266: the word 0x00000003 is DEINIT, which answers FAIL_USAGE in UNINIT and changes nothing;
in every other phase it leaves UNINIT and answers OK. Nothing is said of the registers it leaves unspecified. -/
def Obligations.DeinitReleasesSession : Prop :=
  (∀ p inp oc, decode (.request (.command ⟨0x00000003, p, inp, oc⟩)) = .ok .deinit)
  ∧ ∀ s : State,
    (s.phase = .uninit → exec .deinit s = .next (s.returning (statusResult 0x11)))
    ∧ (s.phase ≠ .uninit → ∃ t, exec .deinit s = .next t ∧ t.phase = .uninit
        ∧ t.responses = s.responses ++ [statusResult 0x00] ∧ t.requests = s.requests
        ∧ t.input = s.input ∧ t.ipos = s.ipos ∧ t.out = s.out ∧ t.ocap = s.ocap ∧ t.final = s.final)

/-- `60_exceptions.md` R303: in UNINIT a command that needs a session is answered FAIL_USAGE and changes no state
(the check comes before PARAM's, `44_host_commands.md` R260). A FAILED session's STEP is no usage error. -/
def Obligations.UsageErrors : Prop :=
  ∀ s : State,
    (s.phase = .uninit →
      (∀ p, exec (.reinit p) s = .next (s.returning (statusResult 0x11)))
      ∧ exec .deinit s = .next (s.returning (statusResult 0x11))
      ∧ (∀ f inp oc, exec (.step f inp oc) s = .next (s.returning (statusResult 0x11)))
      ∧ ∀ q : BitVec 4, 1 ≤ q.toNat → q.toNat ≤ 5 →
          exec (.query q) s = .next (s.returning (valueResult 0x11 0)))
    ∧ (s.phase = .failed →
      ∀ f inp oc, exec (.step f inp oc) s = .next (s.returning (statusResult (s.err.setWidth 32))))

/-- `44_host_commands.md` R268, `10_state.md` R48, `30_encoding.md` R97: the words 0x00000005 with the index in bits
11:8 are QUERY, which writes no state and answers FAIL_BAD_COMMAND and value 0 for the indices 6 to 15 in every phase,
FAIL_USAGE and value 0 in UNINIT for the indices 1 to 5, and otherwise OK and the register of the index's row. -/
def Obligations.QueryAnswers : Prop :=
  ∀ (s : State) (q : BitVec 4),
    (∀ p inp oc, decode (.request (.command ⟨0x00000005 ||| (q.setWidth 32 <<< 8), p, inp, oc⟩)) = .ok (.query q))
    ∧ (6 ≤ q.toNat → exec (.query q) s = .next (s.returning (valueResult 0x12 0)))
    ∧ (q.toNat < 6 → s.phase = .uninit → q ≠ 0 → exec (.query q) s = .next (s.returning (valueResult 0x11 0)))
    ∧ (q.toNat < 6 → (s.phase ≠ .uninit ∨ q = 0) →
      ∃ v : Word, exec (.query q) s = .next (s.returning (valueResult 0x00 v))
        ∧ v.toNat =
          if q.toNat = 0 then phaseNumber s.phase
          else if q.toNat = 1 then s.err.toNat
          else if q.toNat = 2 then s.totalOut.toNat % 2 ^ 32
          else if q.toNat = 3 then s.totalOut.toNat / 2 ^ 32
          else if q.toNat = 4 then s.adlerB.toNat * 2 ^ 16 + s.adlerA.toNat
          else s.cfgDictLog2.toNat + s.cfgRate.toNat * 2 ^ 8 + s.cfgCsumEn.toNat * 2 ^ 16)

/-- From `44_host_commands.md` R269: the reserved opcodes are answered FAIL_BAD_COMMAND and write no state. -/
def Obligations.ReservedOpcodesRefused : Prop :=
  ∀ (s : State) (w : Word),
    exec (.reservedOp67 w) s = .next (s.returning (valueResult 0x12 0))
    ∧ exec (.reservedOp8F w) s = .next (s.returning (valueResult 0x12 0))

/-- From `43_decode_driver.md` R227: a STEP in a terminal phase runs nothing and answers the outcome again. -/
def Obligations.StepInTerminalPhase : Prop :=
  ∀ (s : State) (f : Bool) (inp : List Byte) (oc : Nat),
    (s.phase = .success → exec (.step f inp oc) s = .next (s.returning (statusResult 0x03)))
    ∧ (s.phase = .failed → exec (.step f inp oc) s = .next (s.returning (statusResult (s.err.setWidth 32))))

/-! ## STEP -/

/-- From `44_host_commands.md` R267 and `43_decode_driver.md` R210, R211, R227: a STEP in a phase that runs the loop is
the driver's loop to its end. At every number of micro-steps from R233's bound on the loop has ended with a status `c`
in a state `u`, and the STEP answers the end of the STEP from there, `consumed` and `produced` being those of `u`. The
one other outcome is the fault of `TOTAL_OUT` (`93_implementation_defined.md` U6), possible only where `TOTAL_OUT` and
`OCAP` together reach `2^64`. -/
def Obligations.StepAlwaysReturns : Prop :=
  ∀ (s : State) (f : Bool) (inp : List Byte) (oc : Nat), s.Inv → s.phase.resumable →
    (s.totalOut.toNat + oc < 2 ^ 64 → ∃ (c : Status) (u t : State) (r : Response),
      LoopOutcome f inp oc s (.stop c u) ∧ exec (.step f inp oc) s = .next t ∧ t = endStep c u
      ∧ r.status = c.code.setWidth 32 ∧ r.consumed = u.ipos ∧ r.produced = u.out ∧ StepReturned inp oc s t r)
    ∧ (2 ^ 64 ≤ s.totalOut.toNat + oc →
      (∃ (c : Status) (u t : State) (r : Response),
        LoopOutcome f inp oc s (.stop c u) ∧ exec (.step f inp oc) s = .next t ∧ t = endStep c u
        ∧ r.status = c.code.setWidth 32 ∧ r.consumed = u.ipos ∧ r.produced = u.out ∧ StepReturned inp oc s t r)
      ∨ (LoopOutcome f inp oc s (.fault .totalOutOverflow)
        ∧ exec (.step f inp oc) s = .fault .totalOutOverflow))

/-- `43_decode_driver.md` R233: the bound on the micro-steps of a STEP. -/
def Obligations.StepWithinProgressBound : Prop :=
  ∀ (s : State) (f : Bool) (inp : List Byte) (oc : Nat), s.Inv → s.phase.resumable →
    runLoop (inp.length + (4 + s.cfgDictLog2.toNat) * oc + 35) (startStep f inp oc s) ≠ .fault .stepBoundExceeded

/-- The model's own bound on the loop (log entry 5) is never met: no STEP and no ONESHOT, in any state whatever,
stops on it. -/
def Obligations.LoopBoundNeverMet : Prop :=
  ∀ s : State,
    (∀ f inp oc, exec (.step f inp oc) s ≠ .fault .stepBoundExceeded)
    ∧ ∀ p src cap want, exec (.oneshot p src cap want) s ≠ .fault .stepBoundExceeded

/-- From `43_decode_driver.md` R232: a STEP that suspends, followed by a STEP that is given first the bytes left over
and has its own room, is the one STEP given all the bytes and the room of both: the same state, the same outputs in
order, the same total consumed, the second's status. -/
def Obligations.ChunkIndependence : Prop :=
  ∀ (s s1 s2 : State) (r1 r2 : Response) (f1 f2 : Bool) (a b : List Byte) (m n : Nat), s.Inv → s.phase.resumable →
    exec (.step f1 a m) s = .next s1 → s1.responses = s.responses ++ [r1] →
    (s1.phase = .needInput ∨ s1.phase = .needOutputSpace) →
    exec (.step f2 (a.drop r1.consumed ++ b) n) s1 = .next s2 → s2.responses = s1.responses ++ [r2] →
    ∃ t, exec (.step f2 (a ++ b) (r1.produced.length + n)) s = .next t ∧ t.agrees s2
      ∧ t.responses = s.responses ++
          [{ status := r2.status, value := none, consumed := r1.consumed + r2.consumed,
             produced := r1.produced ++ r2.produced }]

/-- From `43_decode_driver.md` R212, R225: a STEP with no input, where the next micro-step needs a byte, is
FAIL_TRUNCATED with FINAL and NEED_INPUT without; nothing else changes. -/
def Obligations.StepWithoutInput : Prop :=
  ∀ (s : State) (oc : Nat), s.phase.resumable → s.cursorClosed →
    (s.dstate = .rcInit ∨ (s.dstate.decodes ∧ s.range.toNat < 2 ^ 24)) →
    exec (.step true [] oc) s =
        .next (State.returning { s with err := 0x20, phase := .failed } (statusResult 0x20))
    ∧ exec (.step false [] oc) s =
        .next (State.returning { s with phase := .needInput } (statusResult 0x01))

/-- From `43_decode_driver.md` R217, R221, R225: a STEP with no room, where the next micro-step produces a byte, is
NEED_OUTPUT_SPACE whatever the input, and changes nothing else. -/
def Obligations.StepWithoutRoom : Prop :=
  ∀ (s : State) (f : Bool) (inp : List Byte), s.phase.resumable → s.cursorClosed →
    (s.dstate = .emit ∨ s.dstate = .copy) →
    exec (.step f inp 0) s =
        .next (State.returning { s with phase := .needOutputSpace } (statusResult 0x02))

/-- From `42_history_window.md` R191, R192: over a STEP every produced byte is folded into the checksum once, in
order. -/
def Obligations.StepFoldsChecksum : Prop :=
  ∀ (s t : State) (r : Response) (f : Bool) (inp : List Byte) (oc : Nat), s.phase.resumable →
    exec (.step f inp oc) s = .next t → t.responses = s.responses ++ [r] →
    (t.adlerA, t.adlerB) = adlerFold s.adlerA s.adlerB r.produced

/-- From `10_state.md` R27 and `43_decode_driver.md` R222: a STEP that ends in SUCCESS with checking enabled has verified
the checksum: the stored one is the one computed over every byte produced. -/
def Obligations.SuccessMeansVerified : Prop :=
  ∀ (s t : State) (f : Bool) (inp : List Byte) (oc : Nat), s.Inv → s.phase.resumable →
    exec (.step f inp oc) s = .next t → t.phase = .success → s.cfgCsumEn = 1 →
    t.csumStored.toNat = t.adlerB.toNat * 2 ^ 16 + t.adlerA.toNat ∧ t.csumCnt = 0

/-- From `42_history_window.md` R190: after a STEP the window holds, at its number mod `CAP`, every byte that is among the
last `CAP`: one the STEP produced as it is in the output, one produced before the STEP as it read before. -/
def Obligations.WindowHoldsProducedBytes : Prop :=
  ∀ (s t : State) (r : Response) (f : Bool) (inp : List Byte) (oc : Nat), s.Inv → s.phase.resumable →
    exec (.step f inp oc) s = .next t → t.responses = s.responses ++ [r] →
    (∀ j, j < r.produced.length → t.totalOut.toNat ≤ s.totalOut.toNat + j + 2 ^ s.cfgDictLog2.toNat →
      Memory.read t.win ((s.totalOut.toNat + j) % 2 ^ s.cfgDictLog2.toNat) = some (r.produced.getD j 0))
    ∧ ∀ k, k < s.totalOut.toNat → t.totalOut.toNat ≤ k + 2 ^ s.cfgDictLog2.toNat →
      Memory.read t.win (k % 2 ^ s.cfgDictLog2.toNat) = Memory.read s.win (k % 2 ^ s.cfgDictLog2.toNat)
        ∧ Memory.read s.win (k % 2 ^ s.cfgDictLog2.toNat) ≠ none

/-- From `44_host_commands.md` R272, R273 and `42_history_window.md` R197: two sessions that differ only in the
model's own fields (so in what their unwritten window bytes hold) give the same result to every later command and
agree after it. DEINIT leaves registers unspecified, so it is not among the commands. -/
def Obligations.SessionsIgnoreUnwrittenWindow : Prop :=
  ∀ (s s' t : State) (r : Response) (i : Instr), s.Inv → s'.Inv → s.phase ≠ .uninit → s.phase ≠ .decoding →
    s.agrees s' → i ≠ .deinit → exec i s = .next t → t.responses = s.responses ++ [r] →
    ∃ t', exec i s' = .next t' ∧ t'.responses = s'.responses ++ [r] ∧ t.agrees t'

/-! ## Whole-machine rules -/

/-- From `43_decode_driver.md` R228: between commands `PHASE` changes only by INIT, REINIT, DEINIT and a STEP that
runs the loop, each to the phases of the table. -/
def Obligations.PhaseTransitions : Prop :=
  ∀ (s t : State) (i : Instr), s.phase ≠ .decoding → exec i s = .next t → t.phase ≠ s.phase →
    (t.phase = .ready ∧ ∃ p, paramLegal p ∧ (i = .init p ∨ (i = .reinit p ∧ s.phase ≠ .uninit)))
    ∨ (t.phase = .uninit ∧ i = .deinit)
    ∨ ((∃ f inp oc, i = .step f inp oc) ∧ s.phase.resumable
        ∧ (t.phase = .needInput ∨ t.phase = .needOutputSpace ∨ t.phase = .success ∨ t.phase = .failed))

/-- From `10_state.md` R23, R24, R25: no instruction but INIT, REINIT, DEINIT and ONESHOT (which is made of them)
writes the configuration. -/
def Obligations.ConfigurationFrame : Prop :=
  ∀ (s t : State) (i : Instr), exec i s = .next t → i ≠ .deinit → (∀ p, i ≠ .init p) → (∀ p, i ≠ .reinit p) →
    (∀ p src cap want, i ≠ .oneshot p src cap want) →
    t.cfgDictLog2 = s.cfgDictLog2 ∧ t.cfgRate = s.cfgRate ∧ t.cfgCsumEn = s.cfgCsumEn

/-- From `43_decode_driver.md` R211, `41_model_bank.md` R163 and `42_history_window.md` R198: what a micro-step that
continues leaves alone. Only EMIT and COPY write the window, the count, the checksum and the output; only the
adaptive decodes write the bank, each its own context; no micro-step writes the configuration, `ERR`, `PHASE`, the
STEP's operands or the host's port. -/
def Obligations.MicroStepFrame : Prop :=
  ∀ s t : State, microStep s = .cont t →
    (t.cfgDictLog2 = s.cfgDictLog2 ∧ t.cfgRate = s.cfgRate ∧ t.cfgCsumEn = s.cfgCsumEn ∧ t.err = s.err
      ∧ t.phase = s.phase ∧ t.input = s.input ∧ t.ocap = s.ocap ∧ t.final = s.final ∧ t.requests = s.requests
      ∧ t.responses = s.responses ∧ t.draws = s.draws)
    ∧ (s.dstate ≠ .emit → s.dstate ≠ .copy →
      t.win = s.win ∧ t.totalOut = s.totalOut ∧ t.adlerA = s.adlerA ∧ t.adlerB = s.adlerB ∧ t.out = s.out)
    ∧ (s.dstate = .emit ∨ s.dstate = .copy → t.range = s.range ∧ t.code = s.code ∧ t.ipos = s.ipos)
    ∧ (s.dstate ≠ .ctrl → t.freq.ctrl = s.freq.ctrl) ∧ (s.dstate ≠ .lit → t.freq.lit = s.freq.lit)
    ∧ (s.dstate ≠ .len → t.freq.len = s.freq.len) ∧ (s.dstate ≠ .slot → t.freq.slot = s.freq.slot)

/-- From `43_decode_driver.md` R210: a suspending micro-step writes no state but `PHASE`; `finish` leaves SUCCESS in
DONE. -/
def Obligations.SuspensionWritesNothing : Prop :=
  ∀ s t : State,
    (microStep s = .stop .needInput t → t = { s with phase := .needInput })
    ∧ (microStep s = .stop .needOutputSpace t → t = { s with phase := .needOutputSpace })
    ∧ (microStep s = .stop .success t → t = { s with phase := .success, dstate := .done })

/-- From `60_exceptions.md` R311 and `43_decode_driver.md` R226: failure entry. A micro-step that ends with a
failure leaves its code in `ERR` and FAILED in `PHASE`; `DSTATE` keeps its value, and no byte is produced. Where the
failure is one of a decode or of the sync, no other register has changed. -/
def Obligations.FailureEntry : Prop :=
  ∀ (s t : State) (c : Status), microStep s = .stop c t → c.isFailure →
    t.phase = .failed ∧ t.err = c.code ∧ t.dstate = s.dstate
    ∧ t.win = s.win ∧ t.totalOut = s.totalOut ∧ t.adlerA = s.adlerA ∧ t.adlerB = s.adlerB ∧ t.out = s.out
    ∧ (c = .corruptSymbol ∨ c = .truncated → t = { s with err := c.code, phase := .failed })
    ∧ (c = .corruptFormat → s.dstate = .tail → t = { s with err := 0x21, phase := .failed })

/-! ## The range decoder and the model bank -/

/-- `40_range_decoder.md` R135: DecodeFreq. A scaled code at or past the total fails; below it, the symbol is the
largest whose `CUM` is at most it, `CODE` loses `r * CUM` and `RANGE` becomes `r * F`. -/
def Obligations.DecodeFreqSelectsSymbol : Prop :=
  ∀ (f : List Counter) (rg cd : Word), positive f = true → 2 ≤ f.length → total f ≤ 2 ^ 16 → 2 ^ 24 ≤ rg.toNat →
    (total f ≤ cd.toNat / (rg.toNat / total f) → decodeFreq f rg cd = none)
    ∧ (cd.toNat / (rg.toNat / total f) < total f → ∃ d, decodeFreq f rg cd = some d
        ∧ d.sym < f.length ∧ cumBelow f d.sym ≤ cd.toNat / (rg.toNat / total f)
        ∧ (∀ k, k < f.length → cumBelow f k ≤ cd.toNat / (rg.toNat / total f) → k ≤ d.sym)
        ∧ d.range.toNat = rg.toNat / total f * (f.getD d.sym 0).toNat
        ∧ d.code.toNat = cd.toNat - rg.toNat / total f * cumBelow f d.sym)

/-- From `40_range_decoder.md` R139 (b)-(e): after a successful decode `CODE < RANGE` and `2^8 <= RANGE`, and `RANGE`
has not grown. -/
def Obligations.DecodeKeepsBounds : Prop :=
  ∀ (f : List Counter) (rg cd : Word) (d : Decoded), positive f = true → 2 ≤ f.length → total f ≤ 2 ^ 16 →
    2 ^ 24 ≤ rg.toNat → decodeFreq f rg cd = some d →
    d.code.toNat < d.range.toNat ∧ 2 ^ 8 ≤ d.range.toNat ∧ d.range.toNat ≤ rg.toNat

/-- `40_range_decoder.md` R137: DecodeDirect. -/
def Obligations.DirectBit : Prop :=
  ∀ s : State, 2 ^ 24 ≤ s.range.toNat →
    (2 ≤ s.code.toNat / (s.range.toNat / 2) → decodeDirect s = none)
    ∧ (s.code.toNat / (s.range.toNat / 2) < 2 → ∃ t, decodeDirect s = some (s.code.toNat / (s.range.toNat / 2), t)
        ∧ t.range.toNat = s.range.toNat / 2
        ∧ t.code.toNat = s.code.toNat - s.range.toNat / 2 * (s.code.toNat / (s.range.toNat / 2))
        ∧ t = { s with range := t.range, code := t.code })

/-- `41_model_bank.md` R163, R164: ModelUpdate(c, sym): each counter of the model after its symbol was decoded, in
terms of the threshold; no other model and no other register changes. -/
def Obligations.ModelUpdateCounters : Prop :=
  ∀ (c : Ctx) (s : State) (n sym i : Nat), s.cfgRate.toNat < 4 → n ≤ 256 →
    modelOk s.cfgRate.toNat n (s.freq.get c) → sym < n → i < n →
    (((modelUpdate c sym s).freq.get c).getD i 0).toNat =
        (if total (s.freq.get c) + 32 ≤ 1024 * 4 ^ s.cfgRate.toNat
          then ((s.freq.get c).getD i 0).toNat + (if i = sym then 32 else 0)
          else (((s.freq.get c).getD i 0).toNat + (if i = sym then 32 else 0) + 1) / 2)
    ∧ ((modelUpdate c sym s).freq.get c).length = n
    ∧ (∀ c', c' ≠ c → (modelUpdate c sym s).freq.get c' = s.freq.get c')
    ∧ modelUpdate c sym s = { s with freq := (modelUpdate c sym s).freq }

/-- From `41_model_bank.md` R166: an update keeps every counter at least 1 and the total within the threshold. -/
def Obligations.ModelUpdateKeepsBounds : Prop :=
  ∀ (rate n : Nat) (f : List Counter) (sym : Nat), rate < 4 → n ≤ 256 → modelOk rate n f → sym < n →
    modelOk rate n (updated rate f sym)

/-! ## Micro-steps -/

/-- `43_decode_driver.md` R214, `40_range_decoder.md` R134: MS_NORM with a byte at hand, in every sub-state that
decodes. Without one it is NeedIn (R212). -/
def Obligations.NormConsumesOneByte : Prop :=
  ∀ s : State, s.dstate.decodes → s.range.toNat < 2 ^ 24 →
    (s.ipos < s.input.length → ∃ t, microStep s = .cont t
      ∧ t.range.toNat = s.range.toNat * 256 ∧ t.code.toNat = (s.code.toNat * 256 + s.inputByte.toNat) % 2 ^ 32
      ∧ t = { s with range := t.range, code := t.code, ipos := s.ipos + 1 })
    ∧ (¬ s.ipos < s.input.length → s.final = true →
      microStep s = .stop .truncated { s with err := 0x20, phase := .failed })
    ∧ (¬ s.ipos < s.input.length → s.final = false → microStep s = .stop .needInput { s with phase := .needInput })

/-- `43_decode_driver.md` R213, `40_range_decoder.md` R132: MS_RC_INIT. -/
def Obligations.InitialByteLoads : Prop :=
  ∀ s : State, s.dstate = .rcInit → s.initCnt.toNat < 5 →
    (¬ s.ipos < s.input.length → s.final = true →
      microStep s = .stop .truncated { s with err := 0x20, phase := .failed })
    ∧ (¬ s.ipos < s.input.length → s.final = false → microStep s = .stop .needInput { s with phase := .needInput })
    ∧ (s.ipos < s.input.length → s.initCnt = 0 → s.inputByte ≠ 0 →
      microStep s = .stop .corruptFormat { s with ipos := s.ipos + 1, err := 0x21, phase := .failed })
    ∧ (s.ipos < s.input.length → s.initCnt = 0 → s.inputByte = 0 →
      microStep s = .cont { s with ipos := s.ipos + 1, initCnt := 1 })
    ∧ (s.ipos < s.input.length → s.initCnt ≠ 0 → ∃ t, microStep s = .cont t
      ∧ t.code.toNat = (s.code.toNat * 256 + s.inputByte.toNat) % 2 ^ 32 ∧ t.initCnt.toNat = s.initCnt.toNat + 1
      ∧ t = { s with ipos := s.ipos + 1, code := t.code, initCnt := t.initCnt,
                     dstate := if s.initCnt = 4 then .ctrl else .rcInit })

/-- `43_decode_driver.md` R215: MS_CTRL, the symbol dispatcher, from DecodeFreq's answer on `FREQ[CTX_CTRL]`. -/
def Obligations.CtrlDispatch : Prop :=
  ∀ s : State, s.Inv → s.phase = .decoding → s.dstate = .ctrl → 2 ^ 24 ≤ s.range.toNat →
    (decodeFreq s.freq.ctrl s.range s.code = none →
      microStep s = .stop .corruptSymbol { s with err := 0x22, phase := .failed })
    ∧ (∀ d, decodeFreq s.freq.ctrl s.range s.code = some d → d.sym ≤ 2 ∧ ∃ t, microStep s = .cont t
        ∧ t.range = d.range ∧ t.code = d.code
        ∧ t.freq = { s.freq with ctrl := updated s.cfgRate.toNat s.freq.ctrl d.sym }
        ∧ (d.sym = 0 → t.dstate = .lit) ∧ (d.sym = 1 → t.dstate = .len)
        ∧ (d.sym = 2 → t.dstate = .csum ∧ t.csumCnt = 32 ∧ t.csumStored = 0)
        ∧ (d.sym ≠ 2 → t.csumCnt = s.csumCnt ∧ t.csumStored = s.csumStored)
        ∧ t = { s with range := t.range, code := t.code, freq := t.freq, dstate := t.dstate,
                       csumCnt := t.csumCnt, csumStored := t.csumStored })

/-- `43_decode_driver.md` R216 and R218: MS_LIT and MS_LEN, from DecodeFreq's answer on their contexts. -/
def Obligations.LiteralAndLengthDecodes : Prop :=
  ∀ s : State, s.Inv → s.phase = .decoding → 2 ^ 24 ≤ s.range.toNat →
    (s.dstate = .lit →
      (decodeFreq s.freq.lit s.range s.code = none →
        microStep s = .stop .corruptSymbol { s with err := 0x22, phase := .failed })
      ∧ ∀ d, decodeFreq s.freq.lit s.range s.code = some d → ∃ t, microStep s = .cont t
        ∧ t.pendByte.toNat = d.sym ∧ t.dstate = .emit
        ∧ t = { s with range := d.range, code := d.code, pendByte := t.pendByte, dstate := .emit,
                       freq := { s.freq with lit := updated s.cfgRate.toNat s.freq.lit d.sym } })
    ∧ (s.dstate = .len →
      (decodeFreq s.freq.len s.range s.code = none →
        microStep s = .stop .corruptSymbol { s with err := 0x22, phase := .failed })
      ∧ ∀ d, decodeFreq s.freq.len s.range s.code = some d → ∃ t, microStep s = .cont t
        ∧ t.mlen.toNat = d.sym + 2 ∧ t.dstate = .slot
        ∧ t = { s with range := d.range, code := d.code, mlen := t.mlen, dstate := .slot,
                       freq := { s.freq with len := updated s.cfgRate.toNat s.freq.len d.sym } })

/-- `43_decode_driver.md` R219: MS_SLOT, with the distance check of slot 0 (`42_history_window.md` R194). -/
def Obligations.SlotDecode : Prop :=
  ∀ s : State, s.Inv → s.phase = .decoding → s.dstate = .slot → 2 ^ 24 ≤ s.range.toNat →
    (decodeFreq s.freq.slot s.range s.code = none →
      microStep s = .stop .corruptSymbol { s with err := 0x22, phase := .failed })
    ∧ ∀ d, decodeFreq s.freq.slot s.range s.code = some d → ∃ u : State,
        u = { s with range := d.range, code := d.code, mdist := 1, xbits := u.xbits,
                     freq := { s.freq with slot := updated s.cfgRate.toNat s.freq.slot d.sym } }
        ∧ u.xbits.toNat = d.sym
        ∧ (d.sym ≠ 0 → microStep s = .cont { u with dstate := .extra })
        ∧ (d.sym = 0 → 1 ≤ s.totalOut.toNat → microStep s = .cont { u with dstate := .copy })
        ∧ (d.sym = 0 → s.totalOut = 0 →
          microStep s = .stop .corruptDistance { u with err := 0x23, phase := .failed })

/-- `43_decode_driver.md` R220: MS_EXTRA, with the distance check after the last bit (`42_history_window.md` R194):
the distance alone is compared, against `TOTAL_OUT` and against `CAP`. -/
def Obligations.ExtraBitDecode : Prop :=
  ∀ s : State, s.Inv → s.phase = .decoding → s.dstate = .extra → 2 ^ 24 ≤ s.range.toNat →
    (2 ≤ s.code.toNat / (s.range.toNat / 2) →
      microStep s = .stop .corruptSymbol { s with err := 0x22, phase := .failed })
    ∧ (s.code.toNat / (s.range.toNat / 2) < 2 → ∃ u : State,
        u = { s with range := u.range, code := u.code, mdist := u.mdist, xbits := u.xbits }
        ∧ u.range.toNat = s.range.toNat / 2
        ∧ u.code.toNat = s.code.toNat - s.range.toNat / 2 * (s.code.toNat / (s.range.toNat / 2))
        ∧ u.mdist.toNat = 2 * s.mdist.toNat + s.code.toNat / (s.range.toNat / 2)
        ∧ u.xbits.toNat + 1 = s.xbits.toNat
        ∧ (s.xbits ≠ 1 → microStep s = .cont u)
        ∧ (s.xbits = 1 → u.mdist.toNat ≤ s.totalOut.toNat → u.mdist.toNat ≤ 2 ^ s.cfgDictLog2.toNat →
          microStep s = .cont { u with dstate := .copy })
        ∧ (s.xbits = 1 → (s.totalOut.toNat < u.mdist.toNat ∨ 2 ^ s.cfgDictLog2.toNat < u.mdist.toNat) →
          microStep s = .stop .corruptDistance { u with err := 0x23, phase := .failed }))

/-- `43_decode_driver.md` R217, `42_history_window.md` R191, R192: MS_EMIT, as a step of the machine. -/
def Obligations.EmitProducesPendingByte : Prop :=
  ∀ s : State, Memory.wf s.win = true → s.phase = .decoding → s.dstate = .emit →
    (s.out.length < s.ocap → s.totalOut.toNat + 1 < 2 ^ 64 → ∃ t, step s = .next t
      ∧ ProducedByte s.pendByte s t
      ∧ t = { s with win := t.win, totalOut := t.totalOut, adlerA := t.adlerA, adlerB := t.adlerB, out := t.out,
                     dstate := .ctrl })
    ∧ (¬ s.out.length < s.ocap → microStep s = .stop .needOutputSpace { s with phase := .needOutputSpace })

/-- `43_decode_driver.md` R221, `42_history_window.md` R193: MS_COPY, as a step of the machine. The byte is read at
`(TOTAL_OUT - MDIST) mod CAP` before anything is written, and something has written it (R197). -/
def Obligations.CopyProducesWindowByte : Prop :=
  ∀ s : State, s.Inv → s.phase = .decoding → s.dstate = .copy →
    (s.out.length < s.ocap → s.totalOut.toNat + 1 < 2 ^ 64 → ∃ (t : State) (b : Byte), step s = .next t
      ∧ Memory.read s.win ((s.totalOut.toNat - s.mdist.toNat) % 2 ^ s.cfgDictLog2.toNat) = some b
      ∧ ProducedByte b s t ∧ t.mlen.toNat + 1 = s.mlen.toNat
      ∧ t = { s with win := t.win, totalOut := t.totalOut, adlerA := t.adlerA, adlerB := t.adlerB, out := t.out,
                     mlen := t.mlen, dstate := if s.mlen = 1 then .ctrl else .copy })
    ∧ (¬ s.out.length < s.ocap → microStep s = .stop .needOutputSpace { s with phase := .needOutputSpace })

/-- `43_decode_driver.md` R222, `90_conflicts.md` C4: MS_CSUM, and the comparison after the last bit. -/
def Obligations.ChecksumBitDecode : Prop :=
  ∀ s : State, s.Inv → s.phase = .decoding → s.dstate = .csum → 2 ^ 24 ≤ s.range.toNat →
    (2 ≤ s.code.toNat / (s.range.toNat / 2) →
      microStep s = .stop .corruptSymbol { s with err := 0x22, phase := .failed })
    ∧ (s.code.toNat / (s.range.toNat / 2) < 2 → ∃ u : State,
        u = { s with range := u.range, code := u.code, csumStored := u.csumStored, csumCnt := u.csumCnt }
        ∧ u.range.toNat = s.range.toNat / 2
        ∧ u.code.toNat = s.code.toNat - s.range.toNat / 2 * (s.code.toNat / (s.range.toNat / 2))
        ∧ u.csumStored.toNat = 2 * s.csumStored.toNat + s.code.toNat / (s.range.toNat / 2)
        ∧ u.csumCnt.toNat + 1 = s.csumCnt.toNat
        ∧ (s.csumCnt ≠ 1 → microStep s = .cont u)
        ∧ (s.csumCnt = 1 → s.cfgCsumEn = 1 → u.csumStored.toNat ≠ s.adlerB.toNat * 2 ^ 16 + s.adlerA.toNat →
          microStep s = .stop .checksum { u with err := 0x24, phase := .failed })
        ∧ (s.csumCnt = 1 →
          (s.cfgCsumEn = 0 ∨ u.csumStored.toNat = s.adlerB.toNat * 2 ^ 16 + s.adlerA.toNat) →
          microStep s = .cont { u with dstate := .tail }))

/-- `43_decode_driver.md` R223, `40_range_decoder.md` R138: MS_TAIL, as a step of the machine: the STEP ends, its
result is returned and its cursor discarded. -/
def Obligations.TailEndsStream : Prop :=
  ∀ s : State, s.phase = .decoding → s.dstate = .tail → 2 ^ 24 ≤ s.range.toNat →
    (s.code = 0 → step s = .next
      { s with phase := .success, dstate := .done, input := [], ipos := 0, out := [], ocap := 0, final := false,
               responses := s.responses ++ [{ status := 0x03, value := none, consumed := s.ipos, produced := s.out }] })
    ∧ (s.code ≠ 0 → step s = .next
      { s with phase := .failed, err := 0x21, input := [], ipos := 0, out := [], ocap := 0, final := false,
               responses := s.responses ++ [{ status := 0x21, value := none, consumed := s.ipos, produced := s.out }] })

/-! ## Stream items -/

/-- From `43_decode_driver.md` R229: LIT b, with room, completes: it emits `b` and returns to the item boundary. The
models CTX_CTRL (symbol 0) and CTX_LIT (symbol `b`) are updated, the decodes' bytes are consumed (`u` is the state
its decodes left), and nothing else changes but Produce's writes. -/
def Obligations.LitCompletes : Prop :=
  ∀ (s u : State) (b : Byte), s.Inv → readItem s = some (.lit b, .cont u) → s.out.length < s.ocap →
    s.totalOut.toNat + 1 < 2 ^ 64 → ∃ t, exec (.lit b) s = .next t
      ∧ ProducedByte b s t ∧ t.dstate = .ctrl ∧ t.pendByte = b
      ∧ t.freq = { s.freq with ctrl := updated s.cfgRate.toNat s.freq.ctrl 0,
                               lit := updated s.cfgRate.toNat s.freq.lit b.toNat }
      ∧ s.ipos ≤ t.ipos ∧ t.ipos ≤ s.input.length
      ∧ t = { s with range := u.range, code := u.code, ipos := u.ipos, freq := t.freq, pendByte := b, win := t.win,
                     totalOut := t.totalOut, adlerA := t.adlerA, adlerB := t.adlerB, out := t.out }

/-- From `43_decode_driver.md` R230 and `42_history_window.md` R195: MATCH len=L, dist=d, with room for all of it,
completes: byte `j` of the `L` produced is the byte `d` positions earlier, in the window for `j < d` and among the
bytes just produced after that. The models CTX_CTRL (1), CTX_LEN (L - 2) and CTX_SLOT (the slot of `d`) are updated,
and nothing else changes but the match registers, the coder and the bytes produced. -/
def Obligations.MatchCompletes : Prop :=
  ∀ (s u : State) (L d : Nat), s.Inv → readItem s = some (.matchItem L d, .cont u) → s.out.length + L ≤ s.ocap →
    s.totalOut.toNat + L < 2 ^ 64 → ∃ (t : State) (ys : List Byte), exec (.matchItem L d) s = .next t
      ∧ ys.length = L
      ∧ (∀ j, j < L → some (ys.getD j 0) =
          if j < d then Memory.read s.win ((s.totalOut.toNat + j - d) % 2 ^ s.cfgDictLog2.toNat)
          else some (ys.getD (j - d) 0))
      ∧ t.out = s.out ++ ys ∧ t.totalOut.toNat = s.totalOut.toNat + L
      ∧ (t.adlerA, t.adlerB) = adlerFold s.adlerA s.adlerB ys
      ∧ (∀ i, (∀ j, j < L → i ≠ (s.totalOut.toNat + j) % 2 ^ s.cfgDictLog2.toNat) →
          Memory.read t.win i = Memory.read s.win i)
      ∧ (∀ j, j < L → L ≤ j + 2 ^ s.cfgDictLog2.toNat →
          Memory.read t.win ((s.totalOut.toNat + j) % 2 ^ s.cfgDictLog2.toNat) = some (ys.getD j 0))
      ∧ t.dstate = .ctrl ∧ t.mlen = 0 ∧ t.mdist.toNat = d ∧ t.xbits = 0
      ∧ t.freq = { s.freq with ctrl := updated s.cfgRate.toNat s.freq.ctrl 1,
                               len := updated s.cfgRate.toNat s.freq.len (L - 2),
                               slot := updated s.cfgRate.toNat s.freq.slot d.log2 }
      ∧ t = { s with range := u.range, code := u.code, ipos := u.ipos, freq := t.freq, mlen := 0, mdist := t.mdist,
                     xbits := 0, win := t.win, totalOut := t.totalOut, adlerA := t.adlerA, adlerB := t.adlerB,
                     out := t.out }

/-- From `43_decode_driver.md` R230 and `42_history_window.md` R194: a MATCH whose distance exceeds `TOTAL_OUT` or
`CAP` ends the STEP with FAIL_CORRUPT_DISTANCE; its decodes and their model updates stay, and nothing is produced. -/
def Obligations.MatchDistanceFails : Prop :=
  ∀ (s : State) (m : Micro) (L d : Nat), s.Inv → readItem s = some (.matchItem L d, m) →
    (s.totalOut.toNat < d ∨ 2 ^ s.cfgDictLog2.toNat < d) → ∃ (t : State) (r : Response),
      exec (.matchItem L d) s = .next t ∧ t.phase = .failed ∧ t.err = 0x23
      ∧ t.responses = s.responses ++ [r] ∧ r.status = 0x23 ∧ r.value = none ∧ r.produced = s.out
      ∧ s.ipos ≤ r.consumed ∧ r.consumed ≤ s.input.length
      ∧ t.mlen.toNat = L ∧ t.mdist.toNat = d ∧ t.xbits = 0
      ∧ t.freq = { s.freq with ctrl := updated s.cfgRate.toNat s.freq.ctrl 1,
                               len := updated s.cfgRate.toNat s.freq.len (L - 2),
                               slot := updated s.cfgRate.toNat s.freq.slot d.log2 }
      ∧ t.win = s.win ∧ t.totalOut = s.totalOut ∧ t.adlerA = s.adlerA ∧ t.adlerB = s.adlerB
      ∧ t.cursorClosed

/-- From `43_decode_driver.md` R231: EOS csum=x whose checks pass ends the stream: where the tail needs no byte and
`CODE` is 0 the STEP returns SUCCESS. The model CTX_CTRL (2) is updated, `CSUM_STORED` holds `x`, and nothing else
changes but the coder. -/
def Obligations.EosCompletes : Prop :=
  ∀ (s u : State) (x : Word), s.Inv → readItem s = some (.eos x, .cont u) → 2 ^ 24 ≤ u.range.toNat → u.code = 0 →
    exec (.eos x) s = .next
      { s with phase := .success, dstate := .done, range := u.range, code := 0, csumCnt := 0, csumStored := x,
               freq := { s.freq with ctrl := updated s.cfgRate.toNat s.freq.ctrl 2 },
               input := [], ipos := 0, out := [], ocap := 0, final := false,
               responses := s.responses ++ [{ status := 0x03, value := none, consumed := u.ipos, produced := s.out }] }

/-- From `43_decode_driver.md` R231, R223, R214: EOS csum=x whose checks pass, to the end of the STEP. Where `RANGE` is
below `2^24` after the last checksum bit the tail is one byte, which is consumed, else it is empty; with the tail at
hand the STEP ends in SUCCESS if `CODE` and the tail are 0, and in FAIL_CORRUPT_FORMAT otherwise. -/
def Obligations.EosTail : Prop :=
  ∀ (s u : State) (x : Word) (k : Nat), s.Inv → readItem s = some (.eos x, .cont u) →
    k = (if 2 ^ 24 ≤ u.range.toNat then 0 else 1) →
    u.ipos + k ≤ s.input.length → ∃ (t : State) (r : Response), exec (.eos x) s = .next t
      ∧ t.responses = s.responses ++ [r] ∧ r.consumed = u.ipos + k ∧ r.produced = s.out ∧ t.csumStored = x
      ∧ ((u.code = 0 ∧ ∀ j, j < k → s.input.getD (u.ipos + j) 0 = 0) →
          t.phase = .success ∧ t.dstate = .done ∧ r.status = 0x03)
      ∧ (¬ (u.code = 0 ∧ ∀ j, j < k → s.input.getD (u.ipos + j) 0 = 0) →
          t.phase = .failed ∧ t.dstate = .tail ∧ t.err = 0x21 ∧ r.status = 0x21)

/-- From `43_decode_driver.md` R222, R231 and `60_exceptions.md` R307: an EOS whose stored checksum differs from the
computed one ends the STEP with FAIL_CHECKSUM when checking is enabled; the registers of the computed checksum stay. -/
def Obligations.EosChecksumFails : Prop :=
  ∀ (s : State) (m : Micro) (x : Word), s.Inv → readItem s = some (.eos x, m) → s.cfgCsumEn = 1 →
    x.toNat ≠ s.adlerB.toNat * 2 ^ 16 + s.adlerA.toNat → ∃ (t : State) (r : Response),
      exec (.eos x) s = .next t ∧ t.phase = .failed ∧ t.err = 0x24 ∧ t.dstate = .csum
      ∧ t.csumStored = x ∧ t.csumCnt = 0 ∧ t.adlerA = s.adlerA ∧ t.adlerB = s.adlerB
      ∧ t.responses = s.responses ++ [r] ∧ r.status = 0x24 ∧ r.produced = s.out

/-- From `43_decode_driver.md` R229-R231, R210, R211: the item the stream holds is what the micro-steps of its fields
read, and executing it is those micro-steps and the ones after them, up to the item's end and no further.

`readItem s` gives `u` exactly where the micro-steps of one item's fields lead from `s` to `u`, and gives a failure
exactly where the check after the last field fails. The item is the one the registers hold there. With the fields read,
at least one more micro-step follows: to the next item boundary `t`, the first there is after `u`; or to the end of the
STEP; or to the fault of `TOTAL_OUT`. The only states at the boundary between `s` and `u` are those of renormalisations
before the control symbol is decoded (R214). That an item is one transition is the model's choice (log entry 6). -/
def Obligations.ItemsAreMicroSteps : Prop :=
  ∀ (s : State) (i : Instr), s.Inv → s.phase = .decoding →
    (∀ u, readItem s = some (i, .cont u) ↔ i = u.itemRead ∧ u.fieldsRead = true ∧ ∃ a b, FieldPath a b s u)
    ∧ (∀ c w, readItem s = some (i, .stop c w) ↔ i = w.itemRead ∧ (c = .corruptDistance ∨ c = .checksum)
        ∧ ∃ a b v, FieldPath a b s v ∧ v.fieldsRead = false ∧ microStep v = .stop c w)
    ∧ (∀ u, readItem s = some (i, .cont u) →
        (∃ k t, 1 ≤ k ∧ BodyPath k u t ∧ t.dstate = .ctrl ∧ t.phase = .decoding ∧ exec i s = .next t)
        ∨ (∃ k v c t, BodyPath k u v ∧ v.dstate ≠ .ctrl ∧ microStep v = .stop c t ∧ exec i s = .next (endStep c t))
        ∨ (∃ k v, BodyPath k u v ∧ v.dstate ≠ .ctrl ∧ microStep v = .fault .totalOutOverflow
          ∧ exec i s = .fault .totalOutOverflow))
    ∧ (∀ c w, readItem s = some (i, .stop c w) → exec i s = .next (endStep c w))

/-! ## ONESHOT -/

/-- From `44_host_commands.md` R270, R302: ONESHOT on an instance in use is FAIL_USAGE, and with an invalid PARAM
FAIL_INVALID_PARAM; neither changes any state. -/
def Obligations.OneshotRefusals : Prop :=
  ∀ (s : State) (p : Word) (src : List Byte) (cap : Nat) (want : Bool),
    (s.phase ≠ .uninit → exec (.oneshot p src cap want) s = .next (s.returning (statusResult 0x11)))
    ∧ (s.phase = .uninit → ¬ paramLegal p →
        exec (.oneshot p src cap want) s = .next (s.returning (statusResult 0x10)))

/-- From `44_host_commands.md` R270, R271: on a free instance ONESHOT is INIT, one STEP with all of `src` and FINAL,
QUERY CSUM and DEINIT: its status is the STEP's, with NEED_OUTPUT_SPACE turned into FAIL_DEST_TOO_SMALL; its output is
the STEP's, at most `cap` bytes; after SUCCESS it returns the checksum QUERY reads, if it was asked for; NEED_INPUT
cannot occur; and the instance is free again.

Two clauses are the model's choice and no rule of the spec. `t.agrees s3` also equates the registers that DEINIT leaves
unspecified (`10_state.md` R50, `44_host_commands.md` R273): it holds because ONESHOT and the four commands take the same
draw of the free values (log entry 2). That ONESHOT reports `consumed` 0 is log entry 15. -/
def Obligations.OneshotRunsCommands : Prop :=
  ∀ (s : State) (p : Word) (src : List Byte) (cap : Nat) (want : Bool), s.phase = .uninit → s.cursorClosed →
    paramLegal p → cap < 2 ^ 64 →
    ∃ (s1 s2 s3 t : State) (r : Response) (v : Word),
      exec (.init p) s = .next s1 ∧ exec (.step true src cap) s1 = .next s2 ∧ s2.responses = s1.responses ++ [r]
      ∧ exec (.query 4) s2 = .next (s2.returning (valueResult 0x00 v)) ∧ exec .deinit s2 = .next s3
      ∧ exec (.oneshot p src cap want) s = .next t ∧ t.agrees s3 ∧ t.phase = .uninit ∧ t.requests = s.requests
      ∧ r.status ≠ 0x01 ∧ r.produced.length ≤ cap
      ∧ t.responses = s.responses ++
          [{ status := if r.status = 0x02 then 0x30 else r.status
             value := if r.status = 0x03 ∧ want = true then some v else none
             consumed := 0
             produced := r.produced }]

/-! ## Several instances -/

/-- From `60_exceptions.md` R318 and `20_memory.md` R71, R76: a step of one instance leaves every other as it was,
and steps of two instances commute. -/
def Obligations.InstancesAreIndependent : Prop :=
  ∀ (j k : Nat) (p q q' : Platform), j ≠ k → p.stepAt j = .next q → p.stepAt k = .next q' →
    (∀ i, i ≠ j → q.cores[i]? = p.cores[i]?)
    ∧ ∃ w, q.stepAt k = .next w ∧ q'.stepAt j = .next w
end

