-- ==== Sys2Proof/Laws/Memory.lean ====
section
/-! SUPPORT. The window's store: reads after writes, and the canonical form, which every write keeps
(`20_memory.md` R63). -/

namespace Sys2Proof.Machine

@[simp] theorem Memory.read_nil (i : Nat) : Memory.read [] i = none := rfl

@[simp] theorem Memory.wf_nil : Memory.wf [] = true := rfl

theorem Memory.wf_cons (c : Host.Cell) (w : List Host.Cell) :
    Memory.wf (c :: w) = true ↔ (∀ d ∈ w.head?, c.1 < d.1) ∧ Memory.wf w = true := by
  cases w <;> simp [Memory.wf]

/-- A byte just written is read back. -/
@[simp] theorem Memory.read_write_same (w : List Host.Cell) (i : Nat) (b : Byte) :
    Memory.read (Memory.write w i b) i = some b := by
  induction w with
  | nil => simp [Memory.write, Memory.read]
  | cons c rest ih =>
    simp only [Memory.write]
    split
    · simp [Memory.read]
    · split
      · simp [Memory.read]
      · rename_i h1 h2
        simp [Memory.read, h1, h2, ih]

/-- Every other index reads as before. -/
theorem Memory.read_write_other (w : List Host.Cell) {i j : Nat} (b : Byte) (h : j ≠ i) :
    Memory.wf w = true → Memory.read (Memory.write w i b) j = Memory.read w j := by
  induction w with
  | nil => intro _; simp [Memory.write, Memory.read, h.symm]
  | cons c rest ih =>
    intro hw
    have hr := (Memory.wf_cons c rest).1 hw
    simp only [Memory.write]
    split
    · rename_i h1
      simp [Memory.read, h1, h.symm]
    · rename_i h1
      split
      · rename_i h2
        simp only [Memory.read, if_neg h.symm]
        split
        · rename_i h3
          rw [if_neg (by omega), if_pos (by omega)]
        · rfl
      · simp only [Memory.read, ih hr.2]

/-- The first index of a written store is that of the old one or the index written. -/
theorem Memory.head_write (w : List Host.Cell) (i : Nat) (b : Byte) :
    ∀ d ∈ (Memory.write w i b).head?, d.1 = i ∨ ∃ c ∈ w.head?, d.1 = c.1 := by
  cases w with
  | nil => simp [Memory.write]
  | cons c rest =>
    simp only [Memory.write]
    split
    · simp
    · split <;> simp

/-- A write keeps the canonical form. -/
theorem Memory.wf_write (w : List Host.Cell) (i : Nat) (b : Byte) :
    Memory.wf w = true → Memory.wf (Memory.write w i b) = true := by
  induction w with
  | nil => intro _; rfl
  | cons c rest ih =>
    intro hw
    have hr := (Memory.wf_cons c rest).1 hw
    simp only [Memory.write]
    split
    · rename_i h1
      exact (Memory.wf_cons _ _).2 ⟨fun d hd => by have := hr.1 d hd; simp_all, hr.2⟩
    · rename_i h1
      split
      · rename_i h2
        exact (Memory.wf_cons _ _).2 ⟨by simpa using h2, hw⟩
      · rename_i h2
        refine (Memory.wf_cons _ _).2 ⟨fun d hd => ?_, ih hr.2⟩
        rcases Memory.head_write rest i b d hd with h | ⟨e, he, h⟩
        · omega
        · have := hr.1 e he
          omega

/-- Reset memory is in the canonical form. -/
theorem Memory.wf_reset : Memory.wf State.reset.win = true := rfl

/-- A window written at exactly the indices below `n` reads a byte at each of them. -/
theorem Memory.read_of_indices (w : List Host.Cell) (n k : Nat) (h : w.map Prod.fst = List.range' k n) (i : Nat)
    (hk : k ≤ i) (hi : i < k + n) : ∃ b, Memory.read w i = some b := by
  induction w generalizing n k with
  | nil =>
    have := congrArg List.length h
    simp at this
    omega
  | cons c rest ih =>
    cases n with
    | zero => omega
    | succ n =>
      rw [List.range'_succ, List.map_cons, List.cons.injEq] at h
      by_cases hc : c.1 = i
      · exact ⟨c.2, by simp [Memory.read, hc]⟩
      · have hlt : ¬ i < c.1 := by omega
        simp only [Memory.read, if_neg hc, if_neg hlt]
        exact ih n (k + 1) h.2 (by omega) (by omega)

@[simp] theorem Bank.get_set_same (f : Bank) (c : Ctx) (l : List Counter) : (f.set c l).get c = l := by
  cases c <;> rfl

theorem Bank.get_set_other (f : Bank) {c d : Ctx} (l : List Counter) (h : d ≠ c) : (f.set c l).get d = f.get d := by
  cases c <;> cases d <;> first | rfl | exact absurd rfl h

end Sys2Proof.Machine
end

