-- ==== Sys2Proof/Laws/State.lean ====
section
/-! SUPPORT. One lemma per field per update of the state, each true by unfolding, so that no later proof unfolds a
record update. -/

namespace Sys2Proof.Machine

/-! ### `InByte()` consumes a byte -/

@[simp] theorem takeByte_cfgDictLog2 (s : State) : (State.takeByte s).cfgDictLog2 = s.cfgDictLog2 := rfl
@[simp] theorem takeByte_cfgRate (s : State) : (State.takeByte s).cfgRate = s.cfgRate := rfl
@[simp] theorem takeByte_cfgCsumEn (s : State) : (State.takeByte s).cfgCsumEn = s.cfgCsumEn := rfl
@[simp] theorem takeByte_phase (s : State) : (State.takeByte s).phase = s.phase := rfl
@[simp] theorem takeByte_err (s : State) : (State.takeByte s).err = s.err := rfl
@[simp] theorem takeByte_dstate (s : State) : (State.takeByte s).dstate = s.dstate := rfl
@[simp] theorem takeByte_range (s : State) : (State.takeByte s).range = s.range := rfl
@[simp] theorem takeByte_code (s : State) : (State.takeByte s).code = s.code := rfl
@[simp] theorem takeByte_initCnt (s : State) : (State.takeByte s).initCnt = s.initCnt := rfl
@[simp] theorem takeByte_pendByte (s : State) : (State.takeByte s).pendByte = s.pendByte := rfl
@[simp] theorem takeByte_mlen (s : State) : (State.takeByte s).mlen = s.mlen := rfl
@[simp] theorem takeByte_mdist (s : State) : (State.takeByte s).mdist = s.mdist := rfl
@[simp] theorem takeByte_xbits (s : State) : (State.takeByte s).xbits = s.xbits := rfl
@[simp] theorem takeByte_csumCnt (s : State) : (State.takeByte s).csumCnt = s.csumCnt := rfl
@[simp] theorem takeByte_csumStored (s : State) : (State.takeByte s).csumStored = s.csumStored := rfl
@[simp] theorem takeByte_totalOut (s : State) : (State.takeByte s).totalOut = s.totalOut := rfl
@[simp] theorem takeByte_adlerA (s : State) : (State.takeByte s).adlerA = s.adlerA := rfl
@[simp] theorem takeByte_adlerB (s : State) : (State.takeByte s).adlerB = s.adlerB := rfl
@[simp] theorem takeByte_freq (s : State) : (State.takeByte s).freq = s.freq := rfl
@[simp] theorem takeByte_win (s : State) : (State.takeByte s).win = s.win := rfl
@[simp] theorem takeByte_input (s : State) : (State.takeByte s).input = s.input := rfl
@[simp] theorem takeByte_ipos (s : State) : (State.takeByte s).ipos = s.ipos + 1 := rfl
@[simp] theorem takeByte_out (s : State) : (State.takeByte s).out = s.out := rfl
@[simp] theorem takeByte_ocap (s : State) : (State.takeByte s).ocap = s.ocap := rfl
@[simp] theorem takeByte_final (s : State) : (State.takeByte s).final = s.final := rfl
@[simp] theorem takeByte_requests (s : State) : (State.takeByte s).requests = s.requests := rfl
@[simp] theorem takeByte_responses (s : State) : (State.takeByte s).responses = s.responses := rfl
@[simp] theorem takeByte_draws (s : State) : (State.takeByte s).draws = s.draws := rfl

/-! ### `OutByte(b)` -/

@[simp] theorem outByte_cfgDictLog2 (b : Byte) (s : State) : (State.outByte b s).cfgDictLog2 = s.cfgDictLog2 := rfl
@[simp] theorem outByte_cfgRate (b : Byte) (s : State) : (State.outByte b s).cfgRate = s.cfgRate := rfl
@[simp] theorem outByte_cfgCsumEn (b : Byte) (s : State) : (State.outByte b s).cfgCsumEn = s.cfgCsumEn := rfl
@[simp] theorem outByte_phase (b : Byte) (s : State) : (State.outByte b s).phase = s.phase := rfl
@[simp] theorem outByte_err (b : Byte) (s : State) : (State.outByte b s).err = s.err := rfl
@[simp] theorem outByte_dstate (b : Byte) (s : State) : (State.outByte b s).dstate = s.dstate := rfl
@[simp] theorem outByte_range (b : Byte) (s : State) : (State.outByte b s).range = s.range := rfl
@[simp] theorem outByte_code (b : Byte) (s : State) : (State.outByte b s).code = s.code := rfl
@[simp] theorem outByte_initCnt (b : Byte) (s : State) : (State.outByte b s).initCnt = s.initCnt := rfl
@[simp] theorem outByte_pendByte (b : Byte) (s : State) : (State.outByte b s).pendByte = s.pendByte := rfl
@[simp] theorem outByte_mlen (b : Byte) (s : State) : (State.outByte b s).mlen = s.mlen := rfl
@[simp] theorem outByte_mdist (b : Byte) (s : State) : (State.outByte b s).mdist = s.mdist := rfl
@[simp] theorem outByte_xbits (b : Byte) (s : State) : (State.outByte b s).xbits = s.xbits := rfl
@[simp] theorem outByte_csumCnt (b : Byte) (s : State) : (State.outByte b s).csumCnt = s.csumCnt := rfl
@[simp] theorem outByte_csumStored (b : Byte) (s : State) : (State.outByte b s).csumStored = s.csumStored := rfl
@[simp] theorem outByte_totalOut (b : Byte) (s : State) : (State.outByte b s).totalOut = s.totalOut := rfl
@[simp] theorem outByte_adlerA (b : Byte) (s : State) : (State.outByte b s).adlerA = s.adlerA := rfl
@[simp] theorem outByte_adlerB (b : Byte) (s : State) : (State.outByte b s).adlerB = s.adlerB := rfl
@[simp] theorem outByte_freq (b : Byte) (s : State) : (State.outByte b s).freq = s.freq := rfl
@[simp] theorem outByte_win (b : Byte) (s : State) : (State.outByte b s).win = s.win := rfl
@[simp] theorem outByte_input (b : Byte) (s : State) : (State.outByte b s).input = s.input := rfl
@[simp] theorem outByte_ipos (b : Byte) (s : State) : (State.outByte b s).ipos = s.ipos := rfl
@[simp] theorem outByte_out (b : Byte) (s : State) : (State.outByte b s).out = s.out ++ [b] := rfl
@[simp] theorem outByte_ocap (b : Byte) (s : State) : (State.outByte b s).ocap = s.ocap := rfl
@[simp] theorem outByte_final (b : Byte) (s : State) : (State.outByte b s).final = s.final := rfl
@[simp] theorem outByte_requests (b : Byte) (s : State) : (State.outByte b s).requests = s.requests := rfl
@[simp] theorem outByte_responses (b : Byte) (s : State) : (State.outByte b s).responses = s.responses := rfl
@[simp] theorem outByte_draws (b : Byte) (s : State) : (State.outByte b s).draws = s.draws := rfl

/-! ### a STEP's cursor opened -/

@[simp] theorem openCursor_cfgDictLog2 (f : Bool) (inp : List Byte) (oc : Nat) (s : State) : (State.openCursor f inp oc s).cfgDictLog2 = s.cfgDictLog2 := rfl
@[simp] theorem openCursor_cfgRate (f : Bool) (inp : List Byte) (oc : Nat) (s : State) : (State.openCursor f inp oc s).cfgRate = s.cfgRate := rfl
@[simp] theorem openCursor_cfgCsumEn (f : Bool) (inp : List Byte) (oc : Nat) (s : State) : (State.openCursor f inp oc s).cfgCsumEn = s.cfgCsumEn := rfl
@[simp] theorem openCursor_phase (f : Bool) (inp : List Byte) (oc : Nat) (s : State) : (State.openCursor f inp oc s).phase = s.phase := rfl
@[simp] theorem openCursor_err (f : Bool) (inp : List Byte) (oc : Nat) (s : State) : (State.openCursor f inp oc s).err = s.err := rfl
@[simp] theorem openCursor_dstate (f : Bool) (inp : List Byte) (oc : Nat) (s : State) : (State.openCursor f inp oc s).dstate = s.dstate := rfl
@[simp] theorem openCursor_range (f : Bool) (inp : List Byte) (oc : Nat) (s : State) : (State.openCursor f inp oc s).range = s.range := rfl
@[simp] theorem openCursor_code (f : Bool) (inp : List Byte) (oc : Nat) (s : State) : (State.openCursor f inp oc s).code = s.code := rfl
@[simp] theorem openCursor_initCnt (f : Bool) (inp : List Byte) (oc : Nat) (s : State) : (State.openCursor f inp oc s).initCnt = s.initCnt := rfl
@[simp] theorem openCursor_pendByte (f : Bool) (inp : List Byte) (oc : Nat) (s : State) : (State.openCursor f inp oc s).pendByte = s.pendByte := rfl
@[simp] theorem openCursor_mlen (f : Bool) (inp : List Byte) (oc : Nat) (s : State) : (State.openCursor f inp oc s).mlen = s.mlen := rfl
@[simp] theorem openCursor_mdist (f : Bool) (inp : List Byte) (oc : Nat) (s : State) : (State.openCursor f inp oc s).mdist = s.mdist := rfl
@[simp] theorem openCursor_xbits (f : Bool) (inp : List Byte) (oc : Nat) (s : State) : (State.openCursor f inp oc s).xbits = s.xbits := rfl
@[simp] theorem openCursor_csumCnt (f : Bool) (inp : List Byte) (oc : Nat) (s : State) : (State.openCursor f inp oc s).csumCnt = s.csumCnt := rfl
@[simp] theorem openCursor_csumStored (f : Bool) (inp : List Byte) (oc : Nat) (s : State) : (State.openCursor f inp oc s).csumStored = s.csumStored := rfl
@[simp] theorem openCursor_totalOut (f : Bool) (inp : List Byte) (oc : Nat) (s : State) : (State.openCursor f inp oc s).totalOut = s.totalOut := rfl
@[simp] theorem openCursor_adlerA (f : Bool) (inp : List Byte) (oc : Nat) (s : State) : (State.openCursor f inp oc s).adlerA = s.adlerA := rfl
@[simp] theorem openCursor_adlerB (f : Bool) (inp : List Byte) (oc : Nat) (s : State) : (State.openCursor f inp oc s).adlerB = s.adlerB := rfl
@[simp] theorem openCursor_freq (f : Bool) (inp : List Byte) (oc : Nat) (s : State) : (State.openCursor f inp oc s).freq = s.freq := rfl
@[simp] theorem openCursor_win (f : Bool) (inp : List Byte) (oc : Nat) (s : State) : (State.openCursor f inp oc s).win = s.win := rfl
@[simp] theorem openCursor_input (f : Bool) (inp : List Byte) (oc : Nat) (s : State) : (State.openCursor f inp oc s).input = inp := rfl
@[simp] theorem openCursor_ipos (f : Bool) (inp : List Byte) (oc : Nat) (s : State) : (State.openCursor f inp oc s).ipos = 0 := rfl
@[simp] theorem openCursor_out (f : Bool) (inp : List Byte) (oc : Nat) (s : State) : (State.openCursor f inp oc s).out = [] := rfl
@[simp] theorem openCursor_ocap (f : Bool) (inp : List Byte) (oc : Nat) (s : State) : (State.openCursor f inp oc s).ocap = oc := rfl
@[simp] theorem openCursor_final (f : Bool) (inp : List Byte) (oc : Nat) (s : State) : (State.openCursor f inp oc s).final = f := rfl
@[simp] theorem openCursor_requests (f : Bool) (inp : List Byte) (oc : Nat) (s : State) : (State.openCursor f inp oc s).requests = s.requests := rfl
@[simp] theorem openCursor_responses (f : Bool) (inp : List Byte) (oc : Nat) (s : State) : (State.openCursor f inp oc s).responses = s.responses := rfl
@[simp] theorem openCursor_draws (f : Bool) (inp : List Byte) (oc : Nat) (s : State) : (State.openCursor f inp oc s).draws = s.draws := rfl

/-! ### a STEP's cursor discarded -/

@[simp] theorem closeCursor_cfgDictLog2 (s : State) : (State.closeCursor s).cfgDictLog2 = s.cfgDictLog2 := rfl
@[simp] theorem closeCursor_cfgRate (s : State) : (State.closeCursor s).cfgRate = s.cfgRate := rfl
@[simp] theorem closeCursor_cfgCsumEn (s : State) : (State.closeCursor s).cfgCsumEn = s.cfgCsumEn := rfl
@[simp] theorem closeCursor_phase (s : State) : (State.closeCursor s).phase = s.phase := rfl
@[simp] theorem closeCursor_err (s : State) : (State.closeCursor s).err = s.err := rfl
@[simp] theorem closeCursor_dstate (s : State) : (State.closeCursor s).dstate = s.dstate := rfl
@[simp] theorem closeCursor_range (s : State) : (State.closeCursor s).range = s.range := rfl
@[simp] theorem closeCursor_code (s : State) : (State.closeCursor s).code = s.code := rfl
@[simp] theorem closeCursor_initCnt (s : State) : (State.closeCursor s).initCnt = s.initCnt := rfl
@[simp] theorem closeCursor_pendByte (s : State) : (State.closeCursor s).pendByte = s.pendByte := rfl
@[simp] theorem closeCursor_mlen (s : State) : (State.closeCursor s).mlen = s.mlen := rfl
@[simp] theorem closeCursor_mdist (s : State) : (State.closeCursor s).mdist = s.mdist := rfl
@[simp] theorem closeCursor_xbits (s : State) : (State.closeCursor s).xbits = s.xbits := rfl
@[simp] theorem closeCursor_csumCnt (s : State) : (State.closeCursor s).csumCnt = s.csumCnt := rfl
@[simp] theorem closeCursor_csumStored (s : State) : (State.closeCursor s).csumStored = s.csumStored := rfl
@[simp] theorem closeCursor_totalOut (s : State) : (State.closeCursor s).totalOut = s.totalOut := rfl
@[simp] theorem closeCursor_adlerA (s : State) : (State.closeCursor s).adlerA = s.adlerA := rfl
@[simp] theorem closeCursor_adlerB (s : State) : (State.closeCursor s).adlerB = s.adlerB := rfl
@[simp] theorem closeCursor_freq (s : State) : (State.closeCursor s).freq = s.freq := rfl
@[simp] theorem closeCursor_win (s : State) : (State.closeCursor s).win = s.win := rfl
@[simp] theorem closeCursor_input (s : State) : (State.closeCursor s).input = [] := rfl
@[simp] theorem closeCursor_ipos (s : State) : (State.closeCursor s).ipos = 0 := rfl
@[simp] theorem closeCursor_out (s : State) : (State.closeCursor s).out = [] := rfl
@[simp] theorem closeCursor_ocap (s : State) : (State.closeCursor s).ocap = 0 := rfl
@[simp] theorem closeCursor_final (s : State) : (State.closeCursor s).final = false := rfl
@[simp] theorem closeCursor_requests (s : State) : (State.closeCursor s).requests = s.requests := rfl
@[simp] theorem closeCursor_responses (s : State) : (State.closeCursor s).responses = s.responses := rfl
@[simp] theorem closeCursor_draws (s : State) : (State.closeCursor s).draws = s.draws := rfl

/-! ### `DSTATE <- d` -/

@[simp] theorem goto_cfgDictLog2 (d : DState) (s : State) : (State.goto d s).cfgDictLog2 = s.cfgDictLog2 := rfl
@[simp] theorem goto_cfgRate (d : DState) (s : State) : (State.goto d s).cfgRate = s.cfgRate := rfl
@[simp] theorem goto_cfgCsumEn (d : DState) (s : State) : (State.goto d s).cfgCsumEn = s.cfgCsumEn := rfl
@[simp] theorem goto_phase (d : DState) (s : State) : (State.goto d s).phase = s.phase := rfl
@[simp] theorem goto_err (d : DState) (s : State) : (State.goto d s).err = s.err := rfl
@[simp] theorem goto_dstate (d : DState) (s : State) : (State.goto d s).dstate = d := rfl
@[simp] theorem goto_range (d : DState) (s : State) : (State.goto d s).range = s.range := rfl
@[simp] theorem goto_code (d : DState) (s : State) : (State.goto d s).code = s.code := rfl
@[simp] theorem goto_initCnt (d : DState) (s : State) : (State.goto d s).initCnt = s.initCnt := rfl
@[simp] theorem goto_pendByte (d : DState) (s : State) : (State.goto d s).pendByte = s.pendByte := rfl
@[simp] theorem goto_mlen (d : DState) (s : State) : (State.goto d s).mlen = s.mlen := rfl
@[simp] theorem goto_mdist (d : DState) (s : State) : (State.goto d s).mdist = s.mdist := rfl
@[simp] theorem goto_xbits (d : DState) (s : State) : (State.goto d s).xbits = s.xbits := rfl
@[simp] theorem goto_csumCnt (d : DState) (s : State) : (State.goto d s).csumCnt = s.csumCnt := rfl
@[simp] theorem goto_csumStored (d : DState) (s : State) : (State.goto d s).csumStored = s.csumStored := rfl
@[simp] theorem goto_totalOut (d : DState) (s : State) : (State.goto d s).totalOut = s.totalOut := rfl
@[simp] theorem goto_adlerA (d : DState) (s : State) : (State.goto d s).adlerA = s.adlerA := rfl
@[simp] theorem goto_adlerB (d : DState) (s : State) : (State.goto d s).adlerB = s.adlerB := rfl
@[simp] theorem goto_freq (d : DState) (s : State) : (State.goto d s).freq = s.freq := rfl
@[simp] theorem goto_win (d : DState) (s : State) : (State.goto d s).win = s.win := rfl
@[simp] theorem goto_input (d : DState) (s : State) : (State.goto d s).input = s.input := rfl
@[simp] theorem goto_ipos (d : DState) (s : State) : (State.goto d s).ipos = s.ipos := rfl
@[simp] theorem goto_out (d : DState) (s : State) : (State.goto d s).out = s.out := rfl
@[simp] theorem goto_ocap (d : DState) (s : State) : (State.goto d s).ocap = s.ocap := rfl
@[simp] theorem goto_final (d : DState) (s : State) : (State.goto d s).final = s.final := rfl
@[simp] theorem goto_requests (d : DState) (s : State) : (State.goto d s).requests = s.requests := rfl
@[simp] theorem goto_responses (d : DState) (s : State) : (State.goto d s).responses = s.responses := rfl
@[simp] theorem goto_draws (d : DState) (s : State) : (State.goto d s).draws = s.draws := rfl

/-! ### `PHASE <- p` -/

@[simp] theorem setPhase_cfgDictLog2 (p : Phase) (s : State) : (State.setPhase p s).cfgDictLog2 = s.cfgDictLog2 := rfl
@[simp] theorem setPhase_cfgRate (p : Phase) (s : State) : (State.setPhase p s).cfgRate = s.cfgRate := rfl
@[simp] theorem setPhase_cfgCsumEn (p : Phase) (s : State) : (State.setPhase p s).cfgCsumEn = s.cfgCsumEn := rfl
@[simp] theorem setPhase_phase (p : Phase) (s : State) : (State.setPhase p s).phase = p := rfl
@[simp] theorem setPhase_err (p : Phase) (s : State) : (State.setPhase p s).err = s.err := rfl
@[simp] theorem setPhase_dstate (p : Phase) (s : State) : (State.setPhase p s).dstate = s.dstate := rfl
@[simp] theorem setPhase_range (p : Phase) (s : State) : (State.setPhase p s).range = s.range := rfl
@[simp] theorem setPhase_code (p : Phase) (s : State) : (State.setPhase p s).code = s.code := rfl
@[simp] theorem setPhase_initCnt (p : Phase) (s : State) : (State.setPhase p s).initCnt = s.initCnt := rfl
@[simp] theorem setPhase_pendByte (p : Phase) (s : State) : (State.setPhase p s).pendByte = s.pendByte := rfl
@[simp] theorem setPhase_mlen (p : Phase) (s : State) : (State.setPhase p s).mlen = s.mlen := rfl
@[simp] theorem setPhase_mdist (p : Phase) (s : State) : (State.setPhase p s).mdist = s.mdist := rfl
@[simp] theorem setPhase_xbits (p : Phase) (s : State) : (State.setPhase p s).xbits = s.xbits := rfl
@[simp] theorem setPhase_csumCnt (p : Phase) (s : State) : (State.setPhase p s).csumCnt = s.csumCnt := rfl
@[simp] theorem setPhase_csumStored (p : Phase) (s : State) : (State.setPhase p s).csumStored = s.csumStored := rfl
@[simp] theorem setPhase_totalOut (p : Phase) (s : State) : (State.setPhase p s).totalOut = s.totalOut := rfl
@[simp] theorem setPhase_adlerA (p : Phase) (s : State) : (State.setPhase p s).adlerA = s.adlerA := rfl
@[simp] theorem setPhase_adlerB (p : Phase) (s : State) : (State.setPhase p s).adlerB = s.adlerB := rfl
@[simp] theorem setPhase_freq (p : Phase) (s : State) : (State.setPhase p s).freq = s.freq := rfl
@[simp] theorem setPhase_win (p : Phase) (s : State) : (State.setPhase p s).win = s.win := rfl
@[simp] theorem setPhase_input (p : Phase) (s : State) : (State.setPhase p s).input = s.input := rfl
@[simp] theorem setPhase_ipos (p : Phase) (s : State) : (State.setPhase p s).ipos = s.ipos := rfl
@[simp] theorem setPhase_out (p : Phase) (s : State) : (State.setPhase p s).out = s.out := rfl
@[simp] theorem setPhase_ocap (p : Phase) (s : State) : (State.setPhase p s).ocap = s.ocap := rfl
@[simp] theorem setPhase_final (p : Phase) (s : State) : (State.setPhase p s).final = s.final := rfl
@[simp] theorem setPhase_requests (p : Phase) (s : State) : (State.setPhase p s).requests = s.requests := rfl
@[simp] theorem setPhase_responses (p : Phase) (s : State) : (State.setPhase p s).responses = s.responses := rfl
@[simp] theorem setPhase_draws (p : Phase) (s : State) : (State.setPhase p s).draws = s.draws := rfl

/-! ### `RANGE` and `CODE` written -/

@[simp] theorem setCoder_cfgDictLog2 (rg cd : Word) (s : State) : (State.setCoder rg cd s).cfgDictLog2 = s.cfgDictLog2 := rfl
@[simp] theorem setCoder_cfgRate (rg cd : Word) (s : State) : (State.setCoder rg cd s).cfgRate = s.cfgRate := rfl
@[simp] theorem setCoder_cfgCsumEn (rg cd : Word) (s : State) : (State.setCoder rg cd s).cfgCsumEn = s.cfgCsumEn := rfl
@[simp] theorem setCoder_phase (rg cd : Word) (s : State) : (State.setCoder rg cd s).phase = s.phase := rfl
@[simp] theorem setCoder_err (rg cd : Word) (s : State) : (State.setCoder rg cd s).err = s.err := rfl
@[simp] theorem setCoder_dstate (rg cd : Word) (s : State) : (State.setCoder rg cd s).dstate = s.dstate := rfl
@[simp] theorem setCoder_range (rg cd : Word) (s : State) : (State.setCoder rg cd s).range = rg := rfl
@[simp] theorem setCoder_code (rg cd : Word) (s : State) : (State.setCoder rg cd s).code = cd := rfl
@[simp] theorem setCoder_initCnt (rg cd : Word) (s : State) : (State.setCoder rg cd s).initCnt = s.initCnt := rfl
@[simp] theorem setCoder_pendByte (rg cd : Word) (s : State) : (State.setCoder rg cd s).pendByte = s.pendByte := rfl
@[simp] theorem setCoder_mlen (rg cd : Word) (s : State) : (State.setCoder rg cd s).mlen = s.mlen := rfl
@[simp] theorem setCoder_mdist (rg cd : Word) (s : State) : (State.setCoder rg cd s).mdist = s.mdist := rfl
@[simp] theorem setCoder_xbits (rg cd : Word) (s : State) : (State.setCoder rg cd s).xbits = s.xbits := rfl
@[simp] theorem setCoder_csumCnt (rg cd : Word) (s : State) : (State.setCoder rg cd s).csumCnt = s.csumCnt := rfl
@[simp] theorem setCoder_csumStored (rg cd : Word) (s : State) : (State.setCoder rg cd s).csumStored = s.csumStored := rfl
@[simp] theorem setCoder_totalOut (rg cd : Word) (s : State) : (State.setCoder rg cd s).totalOut = s.totalOut := rfl
@[simp] theorem setCoder_adlerA (rg cd : Word) (s : State) : (State.setCoder rg cd s).adlerA = s.adlerA := rfl
@[simp] theorem setCoder_adlerB (rg cd : Word) (s : State) : (State.setCoder rg cd s).adlerB = s.adlerB := rfl
@[simp] theorem setCoder_freq (rg cd : Word) (s : State) : (State.setCoder rg cd s).freq = s.freq := rfl
@[simp] theorem setCoder_win (rg cd : Word) (s : State) : (State.setCoder rg cd s).win = s.win := rfl
@[simp] theorem setCoder_input (rg cd : Word) (s : State) : (State.setCoder rg cd s).input = s.input := rfl
@[simp] theorem setCoder_ipos (rg cd : Word) (s : State) : (State.setCoder rg cd s).ipos = s.ipos := rfl
@[simp] theorem setCoder_out (rg cd : Word) (s : State) : (State.setCoder rg cd s).out = s.out := rfl
@[simp] theorem setCoder_ocap (rg cd : Word) (s : State) : (State.setCoder rg cd s).ocap = s.ocap := rfl
@[simp] theorem setCoder_final (rg cd : Word) (s : State) : (State.setCoder rg cd s).final = s.final := rfl
@[simp] theorem setCoder_requests (rg cd : Word) (s : State) : (State.setCoder rg cd s).requests = s.requests := rfl
@[simp] theorem setCoder_responses (rg cd : Word) (s : State) : (State.setCoder rg cd s).responses = s.responses := rfl
@[simp] theorem setCoder_draws (rg cd : Word) (s : State) : (State.setCoder rg cd s).draws = s.draws := rfl

/-! ### `FREQ[c]` written -/

@[simp] theorem setFreq_cfgDictLog2 (c : Ctx) (l : List Counter) (s : State) : (State.setFreq c l s).cfgDictLog2 = s.cfgDictLog2 := rfl
@[simp] theorem setFreq_cfgRate (c : Ctx) (l : List Counter) (s : State) : (State.setFreq c l s).cfgRate = s.cfgRate := rfl
@[simp] theorem setFreq_cfgCsumEn (c : Ctx) (l : List Counter) (s : State) : (State.setFreq c l s).cfgCsumEn = s.cfgCsumEn := rfl
@[simp] theorem setFreq_phase (c : Ctx) (l : List Counter) (s : State) : (State.setFreq c l s).phase = s.phase := rfl
@[simp] theorem setFreq_err (c : Ctx) (l : List Counter) (s : State) : (State.setFreq c l s).err = s.err := rfl
@[simp] theorem setFreq_dstate (c : Ctx) (l : List Counter) (s : State) : (State.setFreq c l s).dstate = s.dstate := rfl
@[simp] theorem setFreq_range (c : Ctx) (l : List Counter) (s : State) : (State.setFreq c l s).range = s.range := rfl
@[simp] theorem setFreq_code (c : Ctx) (l : List Counter) (s : State) : (State.setFreq c l s).code = s.code := rfl
@[simp] theorem setFreq_initCnt (c : Ctx) (l : List Counter) (s : State) : (State.setFreq c l s).initCnt = s.initCnt := rfl
@[simp] theorem setFreq_pendByte (c : Ctx) (l : List Counter) (s : State) : (State.setFreq c l s).pendByte = s.pendByte := rfl
@[simp] theorem setFreq_mlen (c : Ctx) (l : List Counter) (s : State) : (State.setFreq c l s).mlen = s.mlen := rfl
@[simp] theorem setFreq_mdist (c : Ctx) (l : List Counter) (s : State) : (State.setFreq c l s).mdist = s.mdist := rfl
@[simp] theorem setFreq_xbits (c : Ctx) (l : List Counter) (s : State) : (State.setFreq c l s).xbits = s.xbits := rfl
@[simp] theorem setFreq_csumCnt (c : Ctx) (l : List Counter) (s : State) : (State.setFreq c l s).csumCnt = s.csumCnt := rfl
@[simp] theorem setFreq_csumStored (c : Ctx) (l : List Counter) (s : State) : (State.setFreq c l s).csumStored = s.csumStored := rfl
@[simp] theorem setFreq_totalOut (c : Ctx) (l : List Counter) (s : State) : (State.setFreq c l s).totalOut = s.totalOut := rfl
@[simp] theorem setFreq_adlerA (c : Ctx) (l : List Counter) (s : State) : (State.setFreq c l s).adlerA = s.adlerA := rfl
@[simp] theorem setFreq_adlerB (c : Ctx) (l : List Counter) (s : State) : (State.setFreq c l s).adlerB = s.adlerB := rfl
@[simp] theorem setFreq_freq (c : Ctx) (l : List Counter) (s : State) : (State.setFreq c l s).freq = s.freq.set c l := rfl
@[simp] theorem setFreq_win (c : Ctx) (l : List Counter) (s : State) : (State.setFreq c l s).win = s.win := rfl
@[simp] theorem setFreq_input (c : Ctx) (l : List Counter) (s : State) : (State.setFreq c l s).input = s.input := rfl
@[simp] theorem setFreq_ipos (c : Ctx) (l : List Counter) (s : State) : (State.setFreq c l s).ipos = s.ipos := rfl
@[simp] theorem setFreq_out (c : Ctx) (l : List Counter) (s : State) : (State.setFreq c l s).out = s.out := rfl
@[simp] theorem setFreq_ocap (c : Ctx) (l : List Counter) (s : State) : (State.setFreq c l s).ocap = s.ocap := rfl
@[simp] theorem setFreq_final (c : Ctx) (l : List Counter) (s : State) : (State.setFreq c l s).final = s.final := rfl
@[simp] theorem setFreq_requests (c : Ctx) (l : List Counter) (s : State) : (State.setFreq c l s).requests = s.requests := rfl
@[simp] theorem setFreq_responses (c : Ctx) (l : List Counter) (s : State) : (State.setFreq c l s).responses = s.responses := rfl
@[simp] theorem setFreq_draws (c : Ctx) (l : List Counter) (s : State) : (State.setFreq c l s).draws = s.draws := rfl

/-! ### a result returned -/

@[simp] theorem respond_cfgDictLog2 (r : Response) (s : State) : (State.respond r s).cfgDictLog2 = s.cfgDictLog2 := rfl
@[simp] theorem respond_cfgRate (r : Response) (s : State) : (State.respond r s).cfgRate = s.cfgRate := rfl
@[simp] theorem respond_cfgCsumEn (r : Response) (s : State) : (State.respond r s).cfgCsumEn = s.cfgCsumEn := rfl
@[simp] theorem respond_phase (r : Response) (s : State) : (State.respond r s).phase = s.phase := rfl
@[simp] theorem respond_err (r : Response) (s : State) : (State.respond r s).err = s.err := rfl
@[simp] theorem respond_dstate (r : Response) (s : State) : (State.respond r s).dstate = s.dstate := rfl
@[simp] theorem respond_range (r : Response) (s : State) : (State.respond r s).range = s.range := rfl
@[simp] theorem respond_code (r : Response) (s : State) : (State.respond r s).code = s.code := rfl
@[simp] theorem respond_initCnt (r : Response) (s : State) : (State.respond r s).initCnt = s.initCnt := rfl
@[simp] theorem respond_pendByte (r : Response) (s : State) : (State.respond r s).pendByte = s.pendByte := rfl
@[simp] theorem respond_mlen (r : Response) (s : State) : (State.respond r s).mlen = s.mlen := rfl
@[simp] theorem respond_mdist (r : Response) (s : State) : (State.respond r s).mdist = s.mdist := rfl
@[simp] theorem respond_xbits (r : Response) (s : State) : (State.respond r s).xbits = s.xbits := rfl
@[simp] theorem respond_csumCnt (r : Response) (s : State) : (State.respond r s).csumCnt = s.csumCnt := rfl
@[simp] theorem respond_csumStored (r : Response) (s : State) : (State.respond r s).csumStored = s.csumStored := rfl
@[simp] theorem respond_totalOut (r : Response) (s : State) : (State.respond r s).totalOut = s.totalOut := rfl
@[simp] theorem respond_adlerA (r : Response) (s : State) : (State.respond r s).adlerA = s.adlerA := rfl
@[simp] theorem respond_adlerB (r : Response) (s : State) : (State.respond r s).adlerB = s.adlerB := rfl
@[simp] theorem respond_freq (r : Response) (s : State) : (State.respond r s).freq = s.freq := rfl
@[simp] theorem respond_win (r : Response) (s : State) : (State.respond r s).win = s.win := rfl
@[simp] theorem respond_input (r : Response) (s : State) : (State.respond r s).input = s.input := rfl
@[simp] theorem respond_ipos (r : Response) (s : State) : (State.respond r s).ipos = s.ipos := rfl
@[simp] theorem respond_out (r : Response) (s : State) : (State.respond r s).out = s.out := rfl
@[simp] theorem respond_ocap (r : Response) (s : State) : (State.respond r s).ocap = s.ocap := rfl
@[simp] theorem respond_final (r : Response) (s : State) : (State.respond r s).final = s.final := rfl
@[simp] theorem respond_requests (r : Response) (s : State) : (State.respond r s).requests = s.requests := rfl
@[simp] theorem respond_responses (r : Response) (s : State) : (State.respond r s).responses = s.responses ++ [r] := rfl
@[simp] theorem respond_draws (r : Response) (s : State) : (State.respond r s).draws = s.draws := rfl

/-! ### failure entry -/

@[simp] theorem failureEntry_cfgDictLog2 (c : Status) (s : State) : (failureEntry c s).cfgDictLog2 = s.cfgDictLog2 := rfl
@[simp] theorem failureEntry_cfgRate (c : Status) (s : State) : (failureEntry c s).cfgRate = s.cfgRate := rfl
@[simp] theorem failureEntry_cfgCsumEn (c : Status) (s : State) : (failureEntry c s).cfgCsumEn = s.cfgCsumEn := rfl
@[simp] theorem failureEntry_phase (c : Status) (s : State) : (failureEntry c s).phase = .failed := rfl
@[simp] theorem failureEntry_err (c : Status) (s : State) : (failureEntry c s).err = c.code := rfl
@[simp] theorem failureEntry_dstate (c : Status) (s : State) : (failureEntry c s).dstate = s.dstate := rfl
@[simp] theorem failureEntry_range (c : Status) (s : State) : (failureEntry c s).range = s.range := rfl
@[simp] theorem failureEntry_code (c : Status) (s : State) : (failureEntry c s).code = s.code := rfl
@[simp] theorem failureEntry_initCnt (c : Status) (s : State) : (failureEntry c s).initCnt = s.initCnt := rfl
@[simp] theorem failureEntry_pendByte (c : Status) (s : State) : (failureEntry c s).pendByte = s.pendByte := rfl
@[simp] theorem failureEntry_mlen (c : Status) (s : State) : (failureEntry c s).mlen = s.mlen := rfl
@[simp] theorem failureEntry_mdist (c : Status) (s : State) : (failureEntry c s).mdist = s.mdist := rfl
@[simp] theorem failureEntry_xbits (c : Status) (s : State) : (failureEntry c s).xbits = s.xbits := rfl
@[simp] theorem failureEntry_csumCnt (c : Status) (s : State) : (failureEntry c s).csumCnt = s.csumCnt := rfl
@[simp] theorem failureEntry_csumStored (c : Status) (s : State) : (failureEntry c s).csumStored = s.csumStored := rfl
@[simp] theorem failureEntry_totalOut (c : Status) (s : State) : (failureEntry c s).totalOut = s.totalOut := rfl
@[simp] theorem failureEntry_adlerA (c : Status) (s : State) : (failureEntry c s).adlerA = s.adlerA := rfl
@[simp] theorem failureEntry_adlerB (c : Status) (s : State) : (failureEntry c s).adlerB = s.adlerB := rfl
@[simp] theorem failureEntry_freq (c : Status) (s : State) : (failureEntry c s).freq = s.freq := rfl
@[simp] theorem failureEntry_win (c : Status) (s : State) : (failureEntry c s).win = s.win := rfl
@[simp] theorem failureEntry_input (c : Status) (s : State) : (failureEntry c s).input = s.input := rfl
@[simp] theorem failureEntry_ipos (c : Status) (s : State) : (failureEntry c s).ipos = s.ipos := rfl
@[simp] theorem failureEntry_out (c : Status) (s : State) : (failureEntry c s).out = s.out := rfl
@[simp] theorem failureEntry_ocap (c : Status) (s : State) : (failureEntry c s).ocap = s.ocap := rfl
@[simp] theorem failureEntry_final (c : Status) (s : State) : (failureEntry c s).final = s.final := rfl
@[simp] theorem failureEntry_requests (c : Status) (s : State) : (failureEntry c s).requests = s.requests := rfl
@[simp] theorem failureEntry_responses (c : Status) (s : State) : (failureEntry c s).responses = s.responses := rfl
@[simp] theorem failureEntry_draws (c : Status) (s : State) : (failureEntry c s).draws = s.draws := rfl

/-! ### a request taken -/

@[simp] theorem takeRequest_cfgDictLog2 (s : State) : (State.takeRequest s).cfgDictLog2 = s.cfgDictLog2 := rfl
@[simp] theorem takeRequest_cfgRate (s : State) : (State.takeRequest s).cfgRate = s.cfgRate := rfl
@[simp] theorem takeRequest_cfgCsumEn (s : State) : (State.takeRequest s).cfgCsumEn = s.cfgCsumEn := rfl
@[simp] theorem takeRequest_phase (s : State) : (State.takeRequest s).phase = s.phase := rfl
@[simp] theorem takeRequest_err (s : State) : (State.takeRequest s).err = s.err := rfl
@[simp] theorem takeRequest_dstate (s : State) : (State.takeRequest s).dstate = s.dstate := rfl
@[simp] theorem takeRequest_range (s : State) : (State.takeRequest s).range = s.range := rfl
@[simp] theorem takeRequest_code (s : State) : (State.takeRequest s).code = s.code := rfl
@[simp] theorem takeRequest_initCnt (s : State) : (State.takeRequest s).initCnt = s.initCnt := rfl
@[simp] theorem takeRequest_pendByte (s : State) : (State.takeRequest s).pendByte = s.pendByte := rfl
@[simp] theorem takeRequest_mlen (s : State) : (State.takeRequest s).mlen = s.mlen := rfl
@[simp] theorem takeRequest_mdist (s : State) : (State.takeRequest s).mdist = s.mdist := rfl
@[simp] theorem takeRequest_xbits (s : State) : (State.takeRequest s).xbits = s.xbits := rfl
@[simp] theorem takeRequest_csumCnt (s : State) : (State.takeRequest s).csumCnt = s.csumCnt := rfl
@[simp] theorem takeRequest_csumStored (s : State) : (State.takeRequest s).csumStored = s.csumStored := rfl
@[simp] theorem takeRequest_totalOut (s : State) : (State.takeRequest s).totalOut = s.totalOut := rfl
@[simp] theorem takeRequest_adlerA (s : State) : (State.takeRequest s).adlerA = s.adlerA := rfl
@[simp] theorem takeRequest_adlerB (s : State) : (State.takeRequest s).adlerB = s.adlerB := rfl
@[simp] theorem takeRequest_freq (s : State) : (State.takeRequest s).freq = s.freq := rfl
@[simp] theorem takeRequest_win (s : State) : (State.takeRequest s).win = s.win := rfl
@[simp] theorem takeRequest_input (s : State) : (State.takeRequest s).input = s.input := rfl
@[simp] theorem takeRequest_ipos (s : State) : (State.takeRequest s).ipos = s.ipos := rfl
@[simp] theorem takeRequest_out (s : State) : (State.takeRequest s).out = s.out := rfl
@[simp] theorem takeRequest_ocap (s : State) : (State.takeRequest s).ocap = s.ocap := rfl
@[simp] theorem takeRequest_final (s : State) : (State.takeRequest s).final = s.final := rfl
@[simp] theorem takeRequest_requests (s : State) : (State.takeRequest s).requests = s.requests.tail := rfl
@[simp] theorem takeRequest_responses (s : State) : (State.takeRequest s).responses = s.responses := rfl
@[simp] theorem takeRequest_draws (s : State) : (State.takeRequest s).draws = s.draws := rfl

/-! ### the start of a STEP -/

@[simp] theorem startStep_cfgDictLog2 (f : Bool) (inp : List Byte) (oc : Nat) (s : State) : (startStep f inp oc s).cfgDictLog2 = s.cfgDictLog2 := rfl
@[simp] theorem startStep_cfgRate (f : Bool) (inp : List Byte) (oc : Nat) (s : State) : (startStep f inp oc s).cfgRate = s.cfgRate := rfl
@[simp] theorem startStep_cfgCsumEn (f : Bool) (inp : List Byte) (oc : Nat) (s : State) : (startStep f inp oc s).cfgCsumEn = s.cfgCsumEn := rfl
@[simp] theorem startStep_phase (f : Bool) (inp : List Byte) (oc : Nat) (s : State) : (startStep f inp oc s).phase = .decoding := rfl
@[simp] theorem startStep_err (f : Bool) (inp : List Byte) (oc : Nat) (s : State) : (startStep f inp oc s).err = s.err := rfl
@[simp] theorem startStep_dstate (f : Bool) (inp : List Byte) (oc : Nat) (s : State) : (startStep f inp oc s).dstate = s.dstate := rfl
@[simp] theorem startStep_range (f : Bool) (inp : List Byte) (oc : Nat) (s : State) : (startStep f inp oc s).range = s.range := rfl
@[simp] theorem startStep_code (f : Bool) (inp : List Byte) (oc : Nat) (s : State) : (startStep f inp oc s).code = s.code := rfl
@[simp] theorem startStep_initCnt (f : Bool) (inp : List Byte) (oc : Nat) (s : State) : (startStep f inp oc s).initCnt = s.initCnt := rfl
@[simp] theorem startStep_pendByte (f : Bool) (inp : List Byte) (oc : Nat) (s : State) : (startStep f inp oc s).pendByte = s.pendByte := rfl
@[simp] theorem startStep_mlen (f : Bool) (inp : List Byte) (oc : Nat) (s : State) : (startStep f inp oc s).mlen = s.mlen := rfl
@[simp] theorem startStep_mdist (f : Bool) (inp : List Byte) (oc : Nat) (s : State) : (startStep f inp oc s).mdist = s.mdist := rfl
@[simp] theorem startStep_xbits (f : Bool) (inp : List Byte) (oc : Nat) (s : State) : (startStep f inp oc s).xbits = s.xbits := rfl
@[simp] theorem startStep_csumCnt (f : Bool) (inp : List Byte) (oc : Nat) (s : State) : (startStep f inp oc s).csumCnt = s.csumCnt := rfl
@[simp] theorem startStep_csumStored (f : Bool) (inp : List Byte) (oc : Nat) (s : State) : (startStep f inp oc s).csumStored = s.csumStored := rfl
@[simp] theorem startStep_totalOut (f : Bool) (inp : List Byte) (oc : Nat) (s : State) : (startStep f inp oc s).totalOut = s.totalOut := rfl
@[simp] theorem startStep_adlerA (f : Bool) (inp : List Byte) (oc : Nat) (s : State) : (startStep f inp oc s).adlerA = s.adlerA := rfl
@[simp] theorem startStep_adlerB (f : Bool) (inp : List Byte) (oc : Nat) (s : State) : (startStep f inp oc s).adlerB = s.adlerB := rfl
@[simp] theorem startStep_freq (f : Bool) (inp : List Byte) (oc : Nat) (s : State) : (startStep f inp oc s).freq = s.freq := rfl
@[simp] theorem startStep_win (f : Bool) (inp : List Byte) (oc : Nat) (s : State) : (startStep f inp oc s).win = s.win := rfl
@[simp] theorem startStep_input (f : Bool) (inp : List Byte) (oc : Nat) (s : State) : (startStep f inp oc s).input = inp := rfl
@[simp] theorem startStep_ipos (f : Bool) (inp : List Byte) (oc : Nat) (s : State) : (startStep f inp oc s).ipos = 0 := rfl
@[simp] theorem startStep_out (f : Bool) (inp : List Byte) (oc : Nat) (s : State) : (startStep f inp oc s).out = [] := rfl
@[simp] theorem startStep_ocap (f : Bool) (inp : List Byte) (oc : Nat) (s : State) : (startStep f inp oc s).ocap = oc := rfl
@[simp] theorem startStep_final (f : Bool) (inp : List Byte) (oc : Nat) (s : State) : (startStep f inp oc s).final = f := rfl
@[simp] theorem startStep_requests (f : Bool) (inp : List Byte) (oc : Nat) (s : State) : (startStep f inp oc s).requests = s.requests := rfl
@[simp] theorem startStep_responses (f : Bool) (inp : List Byte) (oc : Nat) (s : State) : (startStep f inp oc s).responses = s.responses := rfl
@[simp] theorem startStep_draws (f : Bool) (inp : List Byte) (oc : Nat) (s : State) : (startStep f inp oc s).draws = s.draws := rfl

/-! ### the end of a STEP -/

@[simp] theorem endStep_cfgDictLog2 (c : Status) (s : State) : (endStep c s).cfgDictLog2 = s.cfgDictLog2 := rfl
@[simp] theorem endStep_cfgRate (c : Status) (s : State) : (endStep c s).cfgRate = s.cfgRate := rfl
@[simp] theorem endStep_cfgCsumEn (c : Status) (s : State) : (endStep c s).cfgCsumEn = s.cfgCsumEn := rfl
@[simp] theorem endStep_phase (c : Status) (s : State) : (endStep c s).phase = s.phase := rfl
@[simp] theorem endStep_err (c : Status) (s : State) : (endStep c s).err = s.err := rfl
@[simp] theorem endStep_dstate (c : Status) (s : State) : (endStep c s).dstate = s.dstate := rfl
@[simp] theorem endStep_range (c : Status) (s : State) : (endStep c s).range = s.range := rfl
@[simp] theorem endStep_code (c : Status) (s : State) : (endStep c s).code = s.code := rfl
@[simp] theorem endStep_initCnt (c : Status) (s : State) : (endStep c s).initCnt = s.initCnt := rfl
@[simp] theorem endStep_pendByte (c : Status) (s : State) : (endStep c s).pendByte = s.pendByte := rfl
@[simp] theorem endStep_mlen (c : Status) (s : State) : (endStep c s).mlen = s.mlen := rfl
@[simp] theorem endStep_mdist (c : Status) (s : State) : (endStep c s).mdist = s.mdist := rfl
@[simp] theorem endStep_xbits (c : Status) (s : State) : (endStep c s).xbits = s.xbits := rfl
@[simp] theorem endStep_csumCnt (c : Status) (s : State) : (endStep c s).csumCnt = s.csumCnt := rfl
@[simp] theorem endStep_csumStored (c : Status) (s : State) : (endStep c s).csumStored = s.csumStored := rfl
@[simp] theorem endStep_totalOut (c : Status) (s : State) : (endStep c s).totalOut = s.totalOut := rfl
@[simp] theorem endStep_adlerA (c : Status) (s : State) : (endStep c s).adlerA = s.adlerA := rfl
@[simp] theorem endStep_adlerB (c : Status) (s : State) : (endStep c s).adlerB = s.adlerB := rfl
@[simp] theorem endStep_freq (c : Status) (s : State) : (endStep c s).freq = s.freq := rfl
@[simp] theorem endStep_win (c : Status) (s : State) : (endStep c s).win = s.win := rfl
@[simp] theorem endStep_input (c : Status) (s : State) : (endStep c s).input = [] := rfl
@[simp] theorem endStep_ipos (c : Status) (s : State) : (endStep c s).ipos = 0 := rfl
@[simp] theorem endStep_out (c : Status) (s : State) : (endStep c s).out = [] := rfl
@[simp] theorem endStep_ocap (c : Status) (s : State) : (endStep c s).ocap = 0 := rfl
@[simp] theorem endStep_final (c : Status) (s : State) : (endStep c s).final = false := rfl
@[simp] theorem endStep_requests (c : Status) (s : State) : (endStep c s).requests = s.requests := rfl
@[simp] theorem endStep_responses (c : Status) (s : State) : (endStep c s).responses = s.responses ++ [stepResult c s] := rfl
@[simp] theorem endStep_draws (c : Status) (s : State) : (endStep c s).draws = s.draws := rfl

/-! ### a renormalisation -/

@[simp] theorem rcNorm_cfgDictLog2 (s : State) : (rcNorm s).cfgDictLog2 = s.cfgDictLog2 := rfl
@[simp] theorem rcNorm_cfgRate (s : State) : (rcNorm s).cfgRate = s.cfgRate := rfl
@[simp] theorem rcNorm_cfgCsumEn (s : State) : (rcNorm s).cfgCsumEn = s.cfgCsumEn := rfl
@[simp] theorem rcNorm_phase (s : State) : (rcNorm s).phase = s.phase := rfl
@[simp] theorem rcNorm_err (s : State) : (rcNorm s).err = s.err := rfl
@[simp] theorem rcNorm_dstate (s : State) : (rcNorm s).dstate = s.dstate := rfl
@[simp] theorem rcNorm_range (s : State) : (rcNorm s).range = s.range <<< 8 := rfl
@[simp] theorem rcNorm_code (s : State) : (rcNorm s).code = codeWithByte s.code s.nextByte := rfl
@[simp] theorem rcNorm_initCnt (s : State) : (rcNorm s).initCnt = s.initCnt := rfl
@[simp] theorem rcNorm_pendByte (s : State) : (rcNorm s).pendByte = s.pendByte := rfl
@[simp] theorem rcNorm_mlen (s : State) : (rcNorm s).mlen = s.mlen := rfl
@[simp] theorem rcNorm_mdist (s : State) : (rcNorm s).mdist = s.mdist := rfl
@[simp] theorem rcNorm_xbits (s : State) : (rcNorm s).xbits = s.xbits := rfl
@[simp] theorem rcNorm_csumCnt (s : State) : (rcNorm s).csumCnt = s.csumCnt := rfl
@[simp] theorem rcNorm_csumStored (s : State) : (rcNorm s).csumStored = s.csumStored := rfl
@[simp] theorem rcNorm_totalOut (s : State) : (rcNorm s).totalOut = s.totalOut := rfl
@[simp] theorem rcNorm_adlerA (s : State) : (rcNorm s).adlerA = s.adlerA := rfl
@[simp] theorem rcNorm_adlerB (s : State) : (rcNorm s).adlerB = s.adlerB := rfl
@[simp] theorem rcNorm_freq (s : State) : (rcNorm s).freq = s.freq := rfl
@[simp] theorem rcNorm_win (s : State) : (rcNorm s).win = s.win := rfl
@[simp] theorem rcNorm_input (s : State) : (rcNorm s).input = s.input := rfl
@[simp] theorem rcNorm_ipos (s : State) : (rcNorm s).ipos = s.ipos + 1 := rfl
@[simp] theorem rcNorm_out (s : State) : (rcNorm s).out = s.out := rfl
@[simp] theorem rcNorm_ocap (s : State) : (rcNorm s).ocap = s.ocap := rfl
@[simp] theorem rcNorm_final (s : State) : (rcNorm s).final = s.final := rfl
@[simp] theorem rcNorm_requests (s : State) : (rcNorm s).requests = s.requests := rfl
@[simp] theorem rcNorm_responses (s : State) : (rcNorm s).responses = s.responses := rfl
@[simp] theorem rcNorm_draws (s : State) : (rcNorm s).draws = s.draws := rfl

/-! ### a model's update -/

@[simp] theorem modelUpdate_cfgDictLog2 (c : Ctx) (sym : Nat) (s : State) : (modelUpdate c sym s).cfgDictLog2 = s.cfgDictLog2 := rfl
@[simp] theorem modelUpdate_cfgRate (c : Ctx) (sym : Nat) (s : State) : (modelUpdate c sym s).cfgRate = s.cfgRate := rfl
@[simp] theorem modelUpdate_cfgCsumEn (c : Ctx) (sym : Nat) (s : State) : (modelUpdate c sym s).cfgCsumEn = s.cfgCsumEn := rfl
@[simp] theorem modelUpdate_phase (c : Ctx) (sym : Nat) (s : State) : (modelUpdate c sym s).phase = s.phase := rfl
@[simp] theorem modelUpdate_err (c : Ctx) (sym : Nat) (s : State) : (modelUpdate c sym s).err = s.err := rfl
@[simp] theorem modelUpdate_dstate (c : Ctx) (sym : Nat) (s : State) : (modelUpdate c sym s).dstate = s.dstate := rfl
@[simp] theorem modelUpdate_range (c : Ctx) (sym : Nat) (s : State) : (modelUpdate c sym s).range = s.range := rfl
@[simp] theorem modelUpdate_code (c : Ctx) (sym : Nat) (s : State) : (modelUpdate c sym s).code = s.code := rfl
@[simp] theorem modelUpdate_initCnt (c : Ctx) (sym : Nat) (s : State) : (modelUpdate c sym s).initCnt = s.initCnt := rfl
@[simp] theorem modelUpdate_pendByte (c : Ctx) (sym : Nat) (s : State) : (modelUpdate c sym s).pendByte = s.pendByte := rfl
@[simp] theorem modelUpdate_mlen (c : Ctx) (sym : Nat) (s : State) : (modelUpdate c sym s).mlen = s.mlen := rfl
@[simp] theorem modelUpdate_mdist (c : Ctx) (sym : Nat) (s : State) : (modelUpdate c sym s).mdist = s.mdist := rfl
@[simp] theorem modelUpdate_xbits (c : Ctx) (sym : Nat) (s : State) : (modelUpdate c sym s).xbits = s.xbits := rfl
@[simp] theorem modelUpdate_csumCnt (c : Ctx) (sym : Nat) (s : State) : (modelUpdate c sym s).csumCnt = s.csumCnt := rfl
@[simp] theorem modelUpdate_csumStored (c : Ctx) (sym : Nat) (s : State) : (modelUpdate c sym s).csumStored = s.csumStored := rfl
@[simp] theorem modelUpdate_totalOut (c : Ctx) (sym : Nat) (s : State) : (modelUpdate c sym s).totalOut = s.totalOut := rfl
@[simp] theorem modelUpdate_adlerA (c : Ctx) (sym : Nat) (s : State) : (modelUpdate c sym s).adlerA = s.adlerA := rfl
@[simp] theorem modelUpdate_adlerB (c : Ctx) (sym : Nat) (s : State) : (modelUpdate c sym s).adlerB = s.adlerB := rfl
@[simp] theorem modelUpdate_freq (c : Ctx) (sym : Nat) (s : State) : (modelUpdate c sym s).freq = s.freq.set c (updated s.cfgRate.toNat (s.freq.get c) sym) := rfl
@[simp] theorem modelUpdate_win (c : Ctx) (sym : Nat) (s : State) : (modelUpdate c sym s).win = s.win := rfl
@[simp] theorem modelUpdate_input (c : Ctx) (sym : Nat) (s : State) : (modelUpdate c sym s).input = s.input := rfl
@[simp] theorem modelUpdate_ipos (c : Ctx) (sym : Nat) (s : State) : (modelUpdate c sym s).ipos = s.ipos := rfl
@[simp] theorem modelUpdate_out (c : Ctx) (sym : Nat) (s : State) : (modelUpdate c sym s).out = s.out := rfl
@[simp] theorem modelUpdate_ocap (c : Ctx) (sym : Nat) (s : State) : (modelUpdate c sym s).ocap = s.ocap := rfl
@[simp] theorem modelUpdate_final (c : Ctx) (sym : Nat) (s : State) : (modelUpdate c sym s).final = s.final := rfl
@[simp] theorem modelUpdate_requests (c : Ctx) (sym : Nat) (s : State) : (modelUpdate c sym s).requests = s.requests := rfl
@[simp] theorem modelUpdate_responses (c : Ctx) (sym : Nat) (s : State) : (modelUpdate c sym s).responses = s.responses := rfl
@[simp] theorem modelUpdate_draws (c : Ctx) (sym : Nat) (s : State) : (modelUpdate c sym s).draws = s.draws := rfl

/-! ### the checksum's update -/

@[simp] theorem adlerUpdate_cfgDictLog2 (b : Byte) (s : State) : (adlerUpdate b s).cfgDictLog2 = s.cfgDictLog2 := rfl
@[simp] theorem adlerUpdate_cfgRate (b : Byte) (s : State) : (adlerUpdate b s).cfgRate = s.cfgRate := rfl
@[simp] theorem adlerUpdate_cfgCsumEn (b : Byte) (s : State) : (adlerUpdate b s).cfgCsumEn = s.cfgCsumEn := rfl
@[simp] theorem adlerUpdate_phase (b : Byte) (s : State) : (adlerUpdate b s).phase = s.phase := rfl
@[simp] theorem adlerUpdate_err (b : Byte) (s : State) : (adlerUpdate b s).err = s.err := rfl
@[simp] theorem adlerUpdate_dstate (b : Byte) (s : State) : (adlerUpdate b s).dstate = s.dstate := rfl
@[simp] theorem adlerUpdate_range (b : Byte) (s : State) : (adlerUpdate b s).range = s.range := rfl
@[simp] theorem adlerUpdate_code (b : Byte) (s : State) : (adlerUpdate b s).code = s.code := rfl
@[simp] theorem adlerUpdate_initCnt (b : Byte) (s : State) : (adlerUpdate b s).initCnt = s.initCnt := rfl
@[simp] theorem adlerUpdate_pendByte (b : Byte) (s : State) : (adlerUpdate b s).pendByte = s.pendByte := rfl
@[simp] theorem adlerUpdate_mlen (b : Byte) (s : State) : (adlerUpdate b s).mlen = s.mlen := rfl
@[simp] theorem adlerUpdate_mdist (b : Byte) (s : State) : (adlerUpdate b s).mdist = s.mdist := rfl
@[simp] theorem adlerUpdate_xbits (b : Byte) (s : State) : (adlerUpdate b s).xbits = s.xbits := rfl
@[simp] theorem adlerUpdate_csumCnt (b : Byte) (s : State) : (adlerUpdate b s).csumCnt = s.csumCnt := rfl
@[simp] theorem adlerUpdate_csumStored (b : Byte) (s : State) : (adlerUpdate b s).csumStored = s.csumStored := rfl
@[simp] theorem adlerUpdate_totalOut (b : Byte) (s : State) : (adlerUpdate b s).totalOut = s.totalOut := rfl
@[simp] theorem adlerUpdate_adlerA (b : Byte) (s : State) : (adlerUpdate b s).adlerA = adlerNextA s.adlerA b := rfl
@[simp] theorem adlerUpdate_adlerB (b : Byte) (s : State) : (adlerUpdate b s).adlerB = adlerNextB s.adlerA s.adlerB b := rfl
@[simp] theorem adlerUpdate_freq (b : Byte) (s : State) : (adlerUpdate b s).freq = s.freq := rfl
@[simp] theorem adlerUpdate_win (b : Byte) (s : State) : (adlerUpdate b s).win = s.win := rfl
@[simp] theorem adlerUpdate_input (b : Byte) (s : State) : (adlerUpdate b s).input = s.input := rfl
@[simp] theorem adlerUpdate_ipos (b : Byte) (s : State) : (adlerUpdate b s).ipos = s.ipos := rfl
@[simp] theorem adlerUpdate_out (b : Byte) (s : State) : (adlerUpdate b s).out = s.out := rfl
@[simp] theorem adlerUpdate_ocap (b : Byte) (s : State) : (adlerUpdate b s).ocap = s.ocap := rfl
@[simp] theorem adlerUpdate_final (b : Byte) (s : State) : (adlerUpdate b s).final = s.final := rfl
@[simp] theorem adlerUpdate_requests (b : Byte) (s : State) : (adlerUpdate b s).requests = s.requests := rfl
@[simp] theorem adlerUpdate_responses (b : Byte) (s : State) : (adlerUpdate b s).responses = s.responses := rfl
@[simp] theorem adlerUpdate_draws (b : Byte) (s : State) : (adlerUpdate b s).draws = s.draws := rfl

/-! ### the writes of Produce -/

@[simp] theorem produced_cfgDictLog2 (b : Byte) (s : State) : (produced b s).cfgDictLog2 = s.cfgDictLog2 := rfl
@[simp] theorem produced_cfgRate (b : Byte) (s : State) : (produced b s).cfgRate = s.cfgRate := rfl
@[simp] theorem produced_cfgCsumEn (b : Byte) (s : State) : (produced b s).cfgCsumEn = s.cfgCsumEn := rfl
@[simp] theorem produced_phase (b : Byte) (s : State) : (produced b s).phase = s.phase := rfl
@[simp] theorem produced_err (b : Byte) (s : State) : (produced b s).err = s.err := rfl
@[simp] theorem produced_dstate (b : Byte) (s : State) : (produced b s).dstate = s.dstate := rfl
@[simp] theorem produced_range (b : Byte) (s : State) : (produced b s).range = s.range := rfl
@[simp] theorem produced_code (b : Byte) (s : State) : (produced b s).code = s.code := rfl
@[simp] theorem produced_initCnt (b : Byte) (s : State) : (produced b s).initCnt = s.initCnt := rfl
@[simp] theorem produced_pendByte (b : Byte) (s : State) : (produced b s).pendByte = s.pendByte := rfl
@[simp] theorem produced_mlen (b : Byte) (s : State) : (produced b s).mlen = s.mlen := rfl
@[simp] theorem produced_mdist (b : Byte) (s : State) : (produced b s).mdist = s.mdist := rfl
@[simp] theorem produced_xbits (b : Byte) (s : State) : (produced b s).xbits = s.xbits := rfl
@[simp] theorem produced_csumCnt (b : Byte) (s : State) : (produced b s).csumCnt = s.csumCnt := rfl
@[simp] theorem produced_csumStored (b : Byte) (s : State) : (produced b s).csumStored = s.csumStored := rfl
@[simp] theorem produced_totalOut (b : Byte) (s : State) : (produced b s).totalOut = s.totalOut + 1 := rfl
@[simp] theorem produced_adlerA (b : Byte) (s : State) : (produced b s).adlerA = adlerNextA s.adlerA b := rfl
@[simp] theorem produced_adlerB (b : Byte) (s : State) : (produced b s).adlerB = adlerNextB s.adlerA s.adlerB b := rfl
@[simp] theorem produced_freq (b : Byte) (s : State) : (produced b s).freq = s.freq := rfl
@[simp] theorem produced_win (b : Byte) (s : State) : (produced b s).win = Memory.write s.win s.writePos b := rfl
@[simp] theorem produced_input (b : Byte) (s : State) : (produced b s).input = s.input := rfl
@[simp] theorem produced_ipos (b : Byte) (s : State) : (produced b s).ipos = s.ipos := rfl
@[simp] theorem produced_out (b : Byte) (s : State) : (produced b s).out = s.out ++ [b] := rfl
@[simp] theorem produced_ocap (b : Byte) (s : State) : (produced b s).ocap = s.ocap := rfl
@[simp] theorem produced_final (b : Byte) (s : State) : (produced b s).final = s.final := rfl
@[simp] theorem produced_requests (b : Byte) (s : State) : (produced b s).requests = s.requests := rfl
@[simp] theorem produced_responses (b : Byte) (s : State) : (produced b s).responses = s.responses := rfl
@[simp] theorem produced_draws (b : Byte) (s : State) : (produced b s).draws = s.draws := rfl

/-! ### SessionReset -/

@[simp] theorem sessionReset_cfgDictLog2 (p : Word) (s : State) : (sessionReset p s).cfgDictLog2 = paramDictLog2 p := rfl
@[simp] theorem sessionReset_cfgRate (p : Word) (s : State) : (sessionReset p s).cfgRate = paramRate p := rfl
@[simp] theorem sessionReset_cfgCsumEn (p : Word) (s : State) : (sessionReset p s).cfgCsumEn = paramCsumEn p := rfl
@[simp] theorem sessionReset_phase (p : Word) (s : State) : (sessionReset p s).phase = .ready := rfl
@[simp] theorem sessionReset_err (p : Word) (s : State) : (sessionReset p s).err = 0 := rfl
@[simp] theorem sessionReset_dstate (p : Word) (s : State) : (sessionReset p s).dstate = .rcInit := rfl
@[simp] theorem sessionReset_range (p : Word) (s : State) : (sessionReset p s).range = Config.rangeInit := rfl
@[simp] theorem sessionReset_code (p : Word) (s : State) : (sessionReset p s).code = 0 := rfl
@[simp] theorem sessionReset_initCnt (p : Word) (s : State) : (sessionReset p s).initCnt = 0 := rfl
@[simp] theorem sessionReset_pendByte (p : Word) (s : State) : (sessionReset p s).pendByte = 0 := rfl
@[simp] theorem sessionReset_mlen (p : Word) (s : State) : (sessionReset p s).mlen = 0 := rfl
@[simp] theorem sessionReset_mdist (p : Word) (s : State) : (sessionReset p s).mdist = 0 := rfl
@[simp] theorem sessionReset_xbits (p : Word) (s : State) : (sessionReset p s).xbits = 0 := rfl
@[simp] theorem sessionReset_csumCnt (p : Word) (s : State) : (sessionReset p s).csumCnt = 0 := rfl
@[simp] theorem sessionReset_csumStored (p : Word) (s : State) : (sessionReset p s).csumStored = 0 := rfl
@[simp] theorem sessionReset_totalOut (p : Word) (s : State) : (sessionReset p s).totalOut = 0 := rfl
@[simp] theorem sessionReset_adlerA (p : Word) (s : State) : (sessionReset p s).adlerA = 1 := rfl
@[simp] theorem sessionReset_adlerB (p : Word) (s : State) : (sessionReset p s).adlerB = 0 := rfl
@[simp] theorem sessionReset_freq (p : Word) (s : State) : (sessionReset p s).freq = initialBank (paramDictLog2 p) := rfl
@[simp] theorem sessionReset_win (p : Word) (s : State) : (sessionReset p s).win = [] := rfl
@[simp] theorem sessionReset_input (p : Word) (s : State) : (sessionReset p s).input = s.input := rfl
@[simp] theorem sessionReset_ipos (p : Word) (s : State) : (sessionReset p s).ipos = s.ipos := rfl
@[simp] theorem sessionReset_out (p : Word) (s : State) : (sessionReset p s).out = s.out := rfl
@[simp] theorem sessionReset_ocap (p : Word) (s : State) : (sessionReset p s).ocap = s.ocap := rfl
@[simp] theorem sessionReset_final (p : Word) (s : State) : (sessionReset p s).final = s.final := rfl
@[simp] theorem sessionReset_requests (p : Word) (s : State) : (sessionReset p s).requests = s.requests := rfl
@[simp] theorem sessionReset_responses (p : Word) (s : State) : (sessionReset p s).responses = s.responses := rfl
@[simp] theorem sessionReset_draws (p : Word) (s : State) : (sessionReset p s).draws = s.draws + 1 := rfl

/-! ### DEINIT's release; the registers it leaves unspecified have no lemma -/

@[simp] theorem release_phase (s : State) : (release s).phase = .uninit := rfl
@[simp] theorem release_win (s : State) : (release s).win = [] := rfl
@[simp] theorem release_input (s : State) : (release s).input = s.input := rfl
@[simp] theorem release_ipos (s : State) : (release s).ipos = s.ipos := rfl
@[simp] theorem release_out (s : State) : (release s).out = s.out := rfl
@[simp] theorem release_ocap (s : State) : (release s).ocap = s.ocap := rfl
@[simp] theorem release_final (s : State) : (release s).final = s.final := rfl
@[simp] theorem release_requests (s : State) : (release s).requests = s.requests := rfl
@[simp] theorem release_responses (s : State) : (release s).responses = s.responses := rfl
@[simp] theorem release_draws (s : State) : (release s).draws = s.draws + 1 := rfl

end Sys2Proof.Machine
end

