-- ==== Sys2Proof/Laws/Coder.lean ====
section
/-! SUPPORT. What the range decoder and the model bank can do: the totals, the symbol search, and one inversion lemma
per operation. -/

namespace Sys2Proof.Machine

@[simp] theorem total_nil : total [] = 0 := rfl

@[simp] theorem total_cons (x : Counter) (f : List Counter) : total (x :: f) = x.toNat + total f := by
  simp [total]

@[simp] theorem cumBelow_zero (f : List Counter) : cumBelow f 0 = 0 := by simp [cumBelow]

@[simp] theorem cumBelow_succ_cons (x : Counter) (f : List Counter) (s : Nat) :
    cumBelow (x :: f) (s + 1) = x.toNat + cumBelow f s := by simp [cumBelow]

theorem cumBelow_succ (f : List Counter) (s : Nat) : cumBelow f (s + 1) = cumBelow f s + (f.getD s 0).toNat := by
  induction f generalizing s with
  | nil => simp [cumBelow]
  | cons x f ih =>
    cases s with
    | zero => simp
    | succ s => simp only [cumBelow_succ_cons, ih, List.getD_cons_succ]; omega

theorem cumBelow_le_total (f : List Counter) (s : Nat) : cumBelow f s ≤ total f := by
  induction f generalizing s with
  | nil => simp [cumBelow]
  | cons x f ih =>
    cases s with
    | zero => simp
    | succ s => have := ih s; simp only [cumBelow_succ_cons, total_cons]; omega

theorem cumBelow_mono (f : List Counter) {s t : Nat} (h : s ≤ t) : cumBelow f s ≤ cumBelow f t := by
  induction h with
  | refl => exact Nat.le_refl _
  | step _ ih => exact Nat.le_trans ih (by rw [cumBelow_succ]; omega)

/-- The search finds the symbol whose interval holds `v` (`40_range_decoder.md` R135). -/
theorem symbolAt_spec (f : List Counter) (v : Nat) (h : v < total f) :
    symbolAt f v < f.length ∧ cumBelow f (symbolAt f v) ≤ v ∧ v < cumBelow f (symbolAt f v + 1) := by
  induction f generalizing v with
  | nil => simp at h
  | cons x f ih =>
    simp only [symbolAt]
    split
    · rename_i hv
      refine ⟨by simp, by simp, ?_⟩
      rw [cumBelow_succ_cons]
      omega
    · rename_i hv
      rw [total_cons] at h
      have := ih (v - x.toNat) (by omega)
      simp only [List.length_cons, cumBelow_succ_cons]
      omega

/-- A decode that succeeds (`40_range_decoder.md` R135). -/
theorem decodeFreq_cases {f : List Counter} {rg cd : Word} {d : Decoded} (h : decodeFreq f rg cd = some d) :
    cd.toNat / (rg.toNat / total f) < total f
    ∧ d.sym = symbolAt f (cd.toNat / (rg.toNat / total f))
    ∧ d.range = BitVec.ofNat 32 (rg.toNat / total f * (f.getD d.sym 0).toNat)
    ∧ d.code = BitVec.ofNat 32 (cd.toNat - rg.toNat / total f * cumBelow f d.sym) := by
  simp only [decodeFreq] at h
  split at h
  · cases h
  · cases h
    exact ⟨by omega, rfl, rfl, rfl⟩

/-- A decode fails exactly when the scaled code is past the total (`40_range_decoder.md` R135). -/
theorem decodeFreq_eq_none {f : List Counter} {rg cd : Word} :
    decodeFreq f rg cd = none ↔ total f ≤ cd.toNat / (rg.toNat / total f) := by
  simp only [decodeFreq]
  split <;> simp_all

/-- An adaptive decode that succeeds: the coder is narrowed and the model updated (`40_range_decoder.md` R136). -/
theorem decodeModel_cases {c : Ctx} {s t : State} {sym : Nat} (h : decodeModel c s = some (sym, t)) :
    ∃ d, decodeFreq (s.freq.get c) s.range s.code = some d ∧ sym = d.sym
      ∧ t = modelUpdate c d.sym (s.setCoder d.range d.code) := by
  simp only [decodeModel] at h
  split at h
  · cases h
  · rename_i d hd
    cases h
    exact ⟨d, hd, rfl, rfl⟩

/-- A direct bit that succeeds (`40_range_decoder.md` R137). -/
theorem decodeDirect_cases {s t : State} {bit : Nat} (h : decodeDirect s = some (bit, t)) :
    bit = s.code.toNat / (s.range.toNat >>> 1) ∧ bit < 2
    ∧ t = s.setCoder (BitVec.ofNat 32 (s.range.toNat >>> 1))
      (BitVec.ofNat 32 (s.code.toNat - s.range.toNat >>> 1 * bit)) := by
  simp only [decodeDirect] at h
  split at h
  · cases h
  · cases h
    exact ⟨rfl, by omega, rfl⟩

@[simp] theorem length_bump (f : List Counter) (sym : Nat) : (bump f sym).length = f.length := by simp [bump]

@[simp] theorem length_rescale (f : List Counter) : (rescale f).length = f.length := by simp [rescale]

@[simp] theorem length_updated (rate : Nat) (f : List Counter) (sym : Nat) : (updated rate f sym).length = f.length := by
  simp only [updated]
  split <;> simp

@[simp] theorem length_initialTable (n : Nat) : (Config.initialTable n).length = n := by simp [Config.initialTable]

theorem total_replicate_one (n : Nat) : total (List.replicate n (BitVec.ofNat 17 1)) = n := by
  induction n with
  | zero => rfl
  | succ n ih => rw [List.replicate_succ, total_cons, ih]; simp [Nat.add_comm]

end Sys2Proof.Machine
end

