-- ==== Sys2Proof/Laws/Driver.lean ====
section
/-! SUPPORT. What each shared operation of the driver, the items and the host's commands can do: one lemma each, cited
instead of unfolding. -/

namespace Sys2Proof.Machine

/-! ## Ends of a micro-step -/

theorem needIn_cases (s : State) :
    (s.final = true ∧ needIn s = raiseFail .truncated s) ∨ (s.final = false ∧ needIn s = suspendInput s) := by
  cases h : s.final <;> simp [needIn, h]

theorem produce_cases {b : Byte} {s t : State} (h : produce b s = some t) :
    s.totalOut.toNat + 1 < 2 ^ 64 ∧ t = produced b s := by
  simp only [produce] at h
  split at h
  · rename_i hlt
    cases h
    exact ⟨hlt, rfl⟩
  · cases h

theorem produce_eq_none {b : Byte} {s : State} : produce b s = none ↔ ¬ s.totalOut.toNat + 1 < 2 ^ 64 := by
  simp only [produce]
  split <;> simp_all

theorem copyByte_cases {s t : State} (h : copyByte s = some t) :
    s.totalOut.toNat + 1 < 2 ^ 64 ∧ t = produced (s.winRead s.copyPos) s := produce_cases h

theorem distanceDone_cases (s : State) :
    (distOk s.mdist s = true ∧ distanceDone s = .cont (s.goto .copy))
    ∨ (distOk s.mdist s = false ∧ distanceDone s = raiseFail .corruptDistance s) := by
  cases h : distOk s.mdist s <;> simp [distanceDone, h]

/-! ## Micro-steps -/

theorem rcLoad_cases (s : State) :
    (s.initCnt = 0 ∧ s.nextByte = 0 ∧ rcLoad s = .cont { s.takeByte with initCnt := s.initCnt + 1 })
    ∨ (s.initCnt = 0 ∧ s.nextByte ≠ 0 ∧ rcLoad s = raiseFail .corruptFormat s.takeByte)
    ∨ (s.initCnt ≠ 0 ∧
        rcLoad s = .cont { s.takeByte with code := codeWithByte s.code s.nextByte, initCnt := s.initCnt + 1 }) := by
  by_cases h : s.initCnt = 0
  · by_cases hb : s.nextByte = 0
    · exact .inl ⟨h, hb, by simp only [rcLoad, if_pos h, if_pos hb]⟩
    · exact .inr (.inl ⟨h, hb, by simp only [rcLoad, if_pos h, if_neg hb]⟩)
  · exact .inr (.inr ⟨h, by simp only [rcLoad, if_neg h]⟩)

theorem msNorm_cases (s : State) :
    (s.inAvail = true ∧ msNorm s = .cont (rcNorm s)) ∨ (s.inAvail = false ∧ msNorm s = needIn s) := by
  cases h : s.inAvail <;> simp [msNorm, h]

theorem msCtrl_cases (s : State) :
    (decodeModel .ctrl s = none ∧ msCtrl s = raiseFail .corruptSymbol s)
    ∨ ∃ sym t, decodeModel .ctrl s = some (sym, t)
      ∧ ((sym = 0 ∧ msCtrl s = .cont (t.goto .lit)) ∨ (sym = 1 ∧ msCtrl s = .cont (t.goto .len))
        ∨ (2 ≤ sym ∧ msCtrl s = .cont { t with csumCnt := 32, csumStored := 0, dstate := .csum })) := by
  cases h : decodeModel .ctrl s with
  | none => exact .inl ⟨rfl, by simp [msCtrl, h]⟩
  | some p =>
    obtain ⟨sym, t⟩ := p
    refine .inr ⟨sym, t, rfl, ?_⟩
    match sym, h with
    | 0, h => exact .inl ⟨rfl, by simp [msCtrl, h]⟩
    | 1, h => exact .inr (.inl ⟨rfl, by simp [msCtrl, h]⟩)
    | n + 2, h => exact .inr (.inr ⟨by omega, by simp [msCtrl, h]⟩)

theorem msLit_cases (s : State) :
    (decodeModel .lit s = none ∧ msLit s = raiseFail .corruptSymbol s)
    ∨ ∃ sym t, decodeModel .lit s = some (sym, t)
      ∧ msLit s = .cont { t with pendByte := literalOf sym, dstate := .emit } := by
  cases h : decodeModel .lit s with
  | none => exact .inl ⟨rfl, by simp [msLit, h]⟩
  | some p => exact .inr ⟨p.1, p.2, rfl, by simp [msLit, h]⟩

theorem msLen_cases (s : State) :
    (decodeModel .len s = none ∧ msLen s = raiseFail .corruptSymbol s)
    ∨ ∃ sym t, decodeModel .len s = some (sym, t)
      ∧ msLen s = .cont { t with mlen := lengthOf sym, dstate := .slot } := by
  cases h : decodeModel .len s with
  | none => exact .inl ⟨rfl, by simp [msLen, h]⟩
  | some p => exact .inr ⟨p.1, p.2, rfl, by simp [msLen, h]⟩

theorem msSlot_cases (s : State) :
    (decodeModel .slot s = none ∧ msSlot s = raiseFail .corruptSymbol s)
    ∨ ∃ sym t, decodeModel .slot s = some (sym, t)
      ∧ ((sym = 0 ∧ msSlot s = distanceDone { t with mdist := 1, xbits := 0 })
        ∨ (sym ≠ 0 ∧ msSlot s = .cont (State.goto .extra { t with mdist := 1, xbits := BitVec.ofNat 5 sym }))) := by
  cases h : decodeModel .slot s with
  | none => exact .inl ⟨rfl, by simp [msSlot, h]⟩
  | some p =>
    obtain ⟨sym, t⟩ := p
    refine .inr ⟨sym, t, rfl, ?_⟩
    by_cases hs : sym = 0
    · subst hs
      exact .inl ⟨rfl, by simp [msSlot, h]⟩
    · exact .inr ⟨hs, by simp [msSlot, h, hs]⟩

theorem msExtra_cases (s : State) :
    (decodeDirect s = none ∧ msExtra s = raiseFail .corruptSymbol s)
    ∨ ∃ bit t, decodeDirect s = some (bit, t)
      ∧ ((s.xbits - 1 = 0 ∧
          msExtra s = distanceDone { t with mdist := distanceWithBit s.mdist bit, xbits := s.xbits - 1 })
        ∨ (s.xbits - 1 ≠ 0 ∧
          msExtra s = .cont { t with mdist := distanceWithBit s.mdist bit, xbits := s.xbits - 1 })) := by
  cases h : decodeDirect s with
  | none => exact .inl ⟨rfl, by simp [msExtra, h]⟩
  | some p =>
    obtain ⟨bit, t⟩ := p
    refine .inr ⟨bit, t, rfl, ?_⟩
    by_cases hx : s.xbits - 1 = 0
    · exact .inl ⟨hx, by simp only [msExtra, h, if_pos hx]⟩
    · exact .inr ⟨hx, by simp only [msExtra, h, if_neg hx]⟩

theorem msEmit_cases (s : State) :
    (s.outAvail = false ∧ msEmit s = suspendOutput s)
    ∨ (s.outAvail = true ∧ ¬ s.totalOut.toNat + 1 < 2 ^ 64 ∧ msEmit s = .fault .totalOutOverflow)
    ∨ (s.outAvail = true ∧ s.totalOut.toNat + 1 < 2 ^ 64
        ∧ msEmit s = .cont ((produced s.pendByte s).goto .ctrl)) := by
  cases h : s.outAvail with
  | false => exact .inl ⟨rfl, by simp [msEmit, h]⟩
  | true =>
    by_cases ho : s.totalOut.toNat + 1 < 2 ^ 64
    · exact .inr (.inr ⟨rfl, ho, by simp only [msEmit, h, produce, if_pos ho, if_true]⟩)
    · exact .inr (.inl ⟨rfl, ho, by simp only [msEmit, h, produce, if_neg ho, if_true]⟩)

theorem msCopy_cases (s : State) :
    (s.outAvail = false ∧ msCopy s = suspendOutput s)
    ∨ (s.outAvail = true ∧ ¬ s.totalOut.toNat + 1 < 2 ^ 64 ∧ msCopy s = .fault .totalOutOverflow)
    ∨ (s.outAvail = true ∧ s.totalOut.toNat + 1 < 2 ^ 64
        ∧ ((s.mlen - 1 = 0 ∧
            msCopy s = .cont (State.goto .ctrl { produced (s.winRead s.copyPos) s with mlen := s.mlen - 1 }))
          ∨ (s.mlen - 1 ≠ 0 ∧ msCopy s = .cont { produced (s.winRead s.copyPos) s with mlen := s.mlen - 1 }))) := by
  cases h : s.outAvail with
  | false => exact .inl ⟨rfl, by simp [msCopy, h]⟩
  | true =>
    by_cases ho : s.totalOut.toNat + 1 < 2 ^ 64
    · refine .inr (.inr ⟨rfl, ho, ?_⟩)
      by_cases hm : s.mlen - 1 = 0
      · exact .inl ⟨hm, by simp only [msCopy, h, copyByte, produce, if_pos ho, if_pos hm, if_true]⟩
      · exact .inr ⟨hm, by simp only [msCopy, h, copyByte, produce, if_pos ho, if_neg hm, if_true]⟩
    · exact .inr (.inl ⟨rfl, ho, by simp only [msCopy, h, copyByte, produce, if_neg ho, if_true]⟩)

theorem msRcInit_cases (s : State) :
    (s.inAvail = false ∧ msRcInit s = needIn s)
    ∨ (s.inAvail = true ∧ rcLoad s = raiseFail .corruptFormat s.takeByte
        ∧ msRcInit s = raiseFail .corruptFormat s.takeByte)
    ∨ ∃ t, s.inAvail = true ∧ rcLoad s = .cont t
      ∧ msRcInit s = .cont (if t.initCnt.toNat = Config.rcInitBytes then t.goto .ctrl else t) := by
  cases h : s.inAvail with
  | false => exact .inl ⟨rfl, by simp [msRcInit, h]⟩
  | true =>
    rcases rcLoad_cases s with ⟨_, _, hr⟩ | ⟨_, _, hr⟩ | ⟨_, hr⟩
    · exact .inr (.inr ⟨_, rfl, hr, by simp only [msRcInit, h, hr, if_true]⟩)
    · exact .inr (.inl ⟨rfl, hr, by simp only [msRcInit, h, hr, raiseFail, if_true]⟩)
    · exact .inr (.inr ⟨_, rfl, hr, by simp only [msRcInit, h, hr, if_true]⟩)

/-- The state after one more stored-checksum bit (`43_decode_driver.md` R222). -/
abbrev withStoredBit (bit : Nat) (s t : State) : State :=
  { t with csumStored := storedWithBit s.csumStored bit, csumCnt := s.csumCnt - 1 }

theorem msCsum_cases (s : State) :
    (decodeDirect s = none ∧ msCsum s = raiseFail .corruptSymbol s)
    ∨ ∃ bit t, decodeDirect s = some (bit, t)
      ∧ ((s.csumCnt - 1 ≠ 0 ∧ msCsum s = .cont (withStoredBit bit s t))
        ∨ (s.csumCnt - 1 = 0 ∧ t.cfgCsumEn = 1 ∧ storedWithBit s.csumStored bit ≠ (withStoredBit bit s t).csumComputed
            ∧ msCsum s = raiseFail .checksum (withStoredBit bit s t))
        ∨ (s.csumCnt - 1 = 0 ∧ ¬ (t.cfgCsumEn = 1
              ∧ storedWithBit s.csumStored bit ≠ (withStoredBit bit s t).csumComputed)
            ∧ msCsum s = .cont ((withStoredBit bit s t).goto .tail))) := by
  cases h : decodeDirect s with
  | none => exact .inl ⟨rfl, by simp [msCsum, h]⟩
  | some p =>
    obtain ⟨bit, t⟩ := p
    refine .inr ⟨bit, t, rfl, ?_⟩
    by_cases hx : s.csumCnt - 1 = 0
    · by_cases hc : t.cfgCsumEn = 1 ∧ storedWithBit s.csumStored bit ≠ (withStoredBit bit s t).csumComputed
      · exact .inr (.inl ⟨hx, hc.1, hc.2, by simp only [msCsum, h, if_pos hx]; exact if_pos hc⟩)
      · exact .inr (.inr ⟨hx, hc, by simp only [msCsum, h, if_pos hx]; exact if_neg hc⟩)
    · exact .inl ⟨hx, by simp only [msCsum, h, if_neg hx]⟩

theorem msTail_cases (s : State) :
    (s.code = 0 ∧ msTail s = finish (s.goto .done)) ∨ (s.code ≠ 0 ∧ msTail s = raiseFail .corruptFormat s) := by
  by_cases h : s.code = 0
  · exact .inl ⟨h, by simp only [msTail, rcSync, h, beq_self_eq_true, if_true]⟩
  · exact .inr ⟨h, if_neg (by simpa [rcSync] using h)⟩

/-! ## Dispatch on `DSTATE` -/

theorem microStep_rcInit {s : State} (h : s.dstate = .rcInit) : microStep s = msRcInit s := by simp [microStep, h]

theorem microStep_emit {s : State} (h : s.dstate = .emit) : microStep s = msEmit s := by simp [microStep, h]

theorem microStep_copy {s : State} (h : s.dstate = .copy) : microStep s = msCopy s := by simp [microStep, h]

theorem microStep_done {s : State} (h : s.dstate = .done) : microStep s = .fault .noMicroStep := by
  simp [microStep, h]

/-- Every sub-state that decodes renormalises first (`43_decode_driver.md` R214). -/
theorem microStep_norm {s : State} (h : s.dstate.decodes) (hn : s.needsNorm = true) : microStep s = msNorm s := by
  rcases h with h | h | h | h | h | h | h <;> simp [microStep, h, hn]

theorem microStep_ctrl {s : State} (h : s.dstate = .ctrl) (hn : s.needsNorm = false) : microStep s = msCtrl s := by
  simp [microStep, h, hn]

theorem microStep_lit {s : State} (h : s.dstate = .lit) (hn : s.needsNorm = false) : microStep s = msLit s := by
  simp [microStep, h, hn]

theorem microStep_len {s : State} (h : s.dstate = .len) (hn : s.needsNorm = false) : microStep s = msLen s := by
  simp [microStep, h, hn]

theorem microStep_slot {s : State} (h : s.dstate = .slot) (hn : s.needsNorm = false) : microStep s = msSlot s := by
  simp [microStep, h, hn]

theorem microStep_extra {s : State} (h : s.dstate = .extra) (hn : s.needsNorm = false) : microStep s = msExtra s := by
  simp [microStep, h, hn]

theorem microStep_csum {s : State} (h : s.dstate = .csum) (hn : s.needsNorm = false) : microStep s = msCsum s := by
  simp [microStep, h, hn]

theorem microStep_tail {s : State} (h : s.dstate = .tail) (hn : s.needsNorm = false) : microStep s = msTail s := by
  simp [microStep, h, hn]

/-! ## The loops -/

theorem runLoop_cont {n : Nat} {s t : State} (h : microStep s = .cont t) : runLoop (n + 1) s = runLoop n t := by
  simp [runLoop, h]

theorem runLoop_stop {n : Nat} {s t : State} {c : Status} (h : microStep s = .stop c t) :
    runLoop (n + 1) s = .stop c t := by
  simp [runLoop, h]

theorem runLoop_fault {n : Nat} {s : State} {f : Fault} (h : microStep s = .fault f) :
    runLoop (n + 1) s = .fault f := by
  simp [runLoop, h]

/-- The loop never answers that it goes on. -/
theorem runLoop_ne_cont (n : Nat) (s t : State) : runLoop n s ≠ .cont t := by
  induction n generalizing s with
  | zero => simp [runLoop]
  | succ n ih =>
    cases h : microStep s with
    | cont u => rw [runLoop_cont h]; exact ih u
    | stop c u => rw [runLoop_stop h]; simp
    | fault f => rw [runLoop_fault h]; simp

/-- A larger bound changes nothing once the loop has ended within a smaller one. -/
theorem runLoop_more {n : Nat} {s : State} (k : Nat) (h : runLoop n s ≠ .fault .stepBoundExceeded) :
    runLoop (n + k) s = runLoop n s := by
  induction n generalizing s with
  | zero => simp [runLoop] at h
  | succ n ih =>
    rw [show n + 1 + k = n + k + 1 by omega]
    cases hm : microStep s with
    | cont u =>
      rw [runLoop_cont hm] at h ⊢
      rw [runLoop_cont hm, ih h]
    | stop c u => rw [runLoop_stop hm, runLoop_stop hm]
    | fault f => rw [runLoop_fault hm, runLoop_fault hm]

/-- What `readItem` says: the machine stands at an item boundary of a running STEP. -/
theorem readItem_boundary {s : State} {i : Instr} {m : Micro} (h : readItem s = some (i, m)) :
    s.phase = .decoding ∧ s.dstate = .ctrl := by
  simp only [readItem] at h
  split at h
  · assumption
  · cases h

/-- The item read is the one the registers hold after its fields, and the outcome read is the last field's. -/
theorem readItem_cases {s : State} {i : Instr} {m : Micro} (h : readItem s = some (i, m)) :
    (∃ t, m = .cont t ∧ i = t.itemRead ∧ readFields (loopBound s.input 0) s = some (.cont t))
    ∨ (∃ c t, m = .stop c t ∧ i = t.itemRead ∧ readFields (loopBound s.input 0) s = some (.stop c t)) := by
  simp only [readItem] at h
  split at h
  · split at h
    · rename_i t ht
      cases h
      exact .inl ⟨t, rfl, rfl, ht⟩
    · rename_i c t ht
      cases h
      exact .inr ⟨c, t, rfl, rfl, ht⟩
    · cases h
  · cases h

/-- Executing the item the stream holds. -/
theorem runItem_of_read {s : State} {i : Instr} {m : Micro} (h : readItem s = some (i, m)) :
    runItem i s = match m with
      | .cont t => closeMicro (finishItem (finishBound t) t)
      | m => closeMicro m := by
  cases m <;> simp [runItem, h]

/-- An item the stream does not hold. -/
theorem runItem_of_not_read {s : State} {i : Instr} (h : ∀ m, readItem s ≠ some (i, m)) :
    runItem i s = .fault .itemNotInStream := by
  simp only [runItem]
  split
  · rename_i j m hr
    rw [if_neg (fun hj => h m (by rw [hr, hj]))]
  · rfl

/-! ## Commands and the step -/

theorem execStep_running {f : Bool} {inp : List Byte} {oc : Nat} {s : State} (h : s.phase.resumable) :
    exec (.step f inp oc) s = closeMicro (runStep f inp oc s) := by
  rcases h with h | h | h <;> simp [exec, execStep, h]

theorem step_decoding {s : State} (h : s.phase = .decoding) : step s = streamStep s := by simp [step, h]

theorem step_between {s : State} (h : s.phase ≠ .decoding) : step s = hostStep s := by simp [step, h]

theorem streamStep_micro {s : State} (h : s.dstate ≠ .ctrl) : streamStep s = closeMicro (microStep s) := by
  have : readItem s = none := by simp [readItem, h]
  simp [streamStep, this]

end Sys2Proof.Machine
end

