-- ==== Sys2Proof/Laws/Paths.lean ====
section
/-! SUPPORT. Runs of continuing micro-steps: how they start, how they join, and what the loop does after one. -/

namespace Sys2Proof.Machine

@[simp] theorem microAfter_zero (s : State) : microAfter 0 s = some s := rfl

theorem microAfter_cont {s t : State} (n : Nat) (h : microStep s = .cont t) :
    microAfter (n + 1) s = microAfter n t := by
  simp [microAfter, h]

/-- A run that gets anywhere begins with a micro-step that continues. -/
theorem microAfter_succ_cases {s v : State} {n : Nat} (h : microAfter (n + 1) s = some v) :
    ∃ t, microStep s = .cont t ∧ microAfter n t = some v := by
  simp only [microAfter] at h
  split at h
  · exact ⟨_, ‹_›, h⟩
  · cases h

theorem microAfter_add (m n : Nat) (s : State) : microAfter (m + n) s = (microAfter m s).bind (microAfter n) := by
  induction m generalizing s with
  | zero => simp
  | succ m ih =>
    rw [Nat.add_right_comm]
    simp only [microAfter]
    split
    · exact ih _
    · rfl

/-- The loop goes on from where a run of continuing micro-steps has led. -/
theorem runLoop_microAfter {s t : State} {n : Nat} (k : Nat) (h : microAfter n s = some t) :
    runLoop (n + k) s = runLoop k t := by
  induction n generalizing s with
  | zero => cases h; simp
  | succ n ih =>
    obtain ⟨u, hu, h⟩ := microAfter_succ_cases h
    rw [Nat.add_right_comm]
    simp only [runLoop, hu]
    exact ih h

end Sys2Proof.Machine
end

