-- ==== Sys2Proof/Laws/PerInstr.lean ====
section
/-! SUPPORT. A family of statements, one per instruction: the encoding of a well-formed instruction matches its row of
the opcode table (`30_encoding.md` R110). -/

namespace Sys2Proof.Laws.TableRow

/-- The row's match and mask; ONESHOT's row has none. -/
def row : Instr → Option (Word × Word)
  | .version => some (0x00000000, 0xFFFFFFFF)
  | .init _ => some (0x00000001, 0xFFFFFFFF)
  | .reinit _ => some (0x00000002, 0xFFFFFFFF)
  | .deinit => some (0x00000003, 0xFFFFFFFF)
  | .step _ _ _ => some (0x00000004, 0xFFFFFFEF)
  | .query _ => some (0x00000005, 0xFFFFF0FF)
  | .reservedOp67 _ => some (0x00000006, 0x0000000E)
  | .reservedOp8F _ => some (0x00000008, 0x00000008)
  | .lit _ => some (0x0, 0x3)
  | .matchItem _ _ => some (0x1, 0x3)
  | .eos _ => some (0x2, 0x3)
  | .oneshot _ _ _ _ => none

/-- The bits a row is matched against: the command word, or an item's control symbol. -/
def number : Code → Option Word
  | .request (.command c) => some c.cmd
  | .request (.oneshot _ _ _ _) => none
  | .symbols [] => none
  | .symbols (c :: _) => some (BitVec.ofNat 32 c)

/-- The encoding of a well-formed instruction matches its row; ONESHOT has no word to match. -/
def Statement (i : Instr) : Prop :=
  i.wellFormed = true → (number (encode i)).map (fun w => (w &&& ((row i).getD (0, 0)).2)) = (row i).map Prod.fst

theorem version : Statement .version := fun _ => by decide

theorem init (p : Word) : Statement (.init p) := fun _ => by simp [encode, wordCode, number, row]

theorem reinit (p : Word) : Statement (.reinit p) := fun _ => by simp [encode, wordCode, number, row]

theorem deinit : Statement .deinit := fun _ => by decide

theorem step (f : Bool) (inp : List Byte) (oc : Nat) : Statement (.step f inp oc) := fun _ => by
  cases f <;> simp [encode, wordCode, number, row]

theorem query (q : BitVec 4) : Statement (.query q) := fun _ => by
  simp only [encode, wordCode, number, row, Option.map_some, Option.getD_some]
  revert q
  decide

theorem reservedOp67 (w : Word) : Statement (.reservedOp67 w) := fun h => by
  simp only [encode, wordCode, number, row, Option.map_some, Option.getD_some, Option.some.injEq]
  have h' : w.extractLsb' 0 4 = 6 ∨ w.extractLsb' 0 4 = 7 := by simpa [Instr.wellFormed] using h
  have e : w &&& 0x0000000E = (w.extractLsb' 0 4 &&& 0xE).setWidth 32 := by
    ext i hi
    simp only [BitVec.getElem_and, BitVec.getElem_setWidth, BitVec.getLsbD_and, BitVec.getLsbD_extractLsb']
    rcases Nat.lt_or_ge i 4 with h4 | h4
    · interval_cases i <;> simp [BitVec.getLsbD_eq_getElem]
    · interval_cases i <;> simp
  rw [e]
  rcases h' with h' | h' <;> rw [h'] <;> decide

theorem reservedOp8F (w : Word) : Statement (.reservedOp8F w) := fun h => by
  simp only [encode, wordCode, number, row, Option.map_some, Option.getD_some, Option.some.injEq]
  have h' : 8 ≤ (w.extractLsb' 0 4).toNat := by simpa [Instr.wellFormed] using h
  have e : w &&& 0x00000008 = (w.extractLsb' 0 4 &&& 0x8).setWidth 32 := by
    ext i hi
    simp only [BitVec.getElem_and, BitVec.getElem_setWidth, BitVec.getLsbD_and, BitVec.getLsbD_extractLsb']
    rcases Nat.lt_or_ge i 4 with h4 | h4
    · interval_cases i <;> simp [BitVec.getLsbD_eq_getElem]
    · interval_cases i <;> simp
  rw [e]
  revert h'
  generalize w.extractLsb' 0 4 = x
  revert x
  decide

theorem lit (b : Byte) : Statement (.lit b) := fun _ => by simp [encode, number, row]

theorem matchItem (l d : Nat) : Statement (.matchItem l d) := fun _ => by simp [encode, number, row]

theorem eos (x : Word) : Statement (.eos x) := fun _ => by simp [encode, number, row]

theorem oneshot (p : Word) (src : List Byte) (cap : Nat) (want : Bool) : Statement (.oneshot p src cap want) :=
  fun _ => rfl

end Sys2Proof.Laws.TableRow
end

