-- ==== Sys2Proof/Tests/Slice0.lean ====
section
/-! SUPPORT. Tests: the smoke test of WellFormed, words decoded as the spec writes them, the spec's worked examples
(expected values from `spec/95_test_vectors.md` and the rules' own examples), and for every statement of
`Certificates/Slice0/Obligations.lean` with hypotheses a state and operands that meet them. -/

namespace Sys2Proof.Tests

open Sys2Proof.Machine

-- One proof at a time: each kernel evaluation needs a thread of its own otherwise.
set_option Elab.async false

/-! ## Helpers -/

/-- The state of a next-state outcome. -/
def nextOf (o : Host.Outcome State Fault Refusal) : State :=
  match o with
  | .next t => t
  | _ => State.reset

/-- An outcome is a next state. -/
def runs (o : Host.Outcome State Fault Refusal) : Bool :=
  match o with
  | .next _ => true
  | _ => false

theorem next_of_runs {o : Host.Outcome State Fault Refusal} (h : runs o = true) : o = .next (nextOf o) := by
  cases o <;> simp_all [runs, nextOf]

/-- The last result returned. -/
def lastResult (s : State) : Response := s.responses.getLastD (statusOnly .okay)

/-- The state of a micro-step's outcome. -/
def microState (m : Micro) : State :=
  match m with
  | .cont t => t
  | .stop _ t => t
  | .fault _ => State.reset

/-- The state in which reading the next item's fields ends. -/
def fieldsEnd (s : State) : State :=
  match readItem s with
  | some (_, m) => microState m
  | none => State.reset

/-- A session after INIT, of class 4, rate 0, checksum on. -/
def session : State := nextOf (exec (.init 0x00010004) State.reset)

/-- That session after `n` bytes 0x41 were produced, no STEP running. -/
def text (n : Nat) : State := (Nat.rec session (fun _ s => produced 0x41 s) n : State).closeCursor

/-- A STEP running on a state whose stream is past its prefix, with the coder's registers given. -/
def mid (d : DState) (range code : Word) (input : List Byte) (oc : Nat) (s : State) : State :=
  { s.openCursor true input oc with phase := .decoding, initCnt := 5, dstate := d, range := range, code := code }

/-- The stream of program P1 (`95_test_vectors.md` section 2). -/
def p1 : List Byte := [0x00, 0x15, 0xBF, 0x74, 0x1B, 0x4B, 0x18, 0x89, 0xB0, 0x44, 0x3B, 0xB4, 0x3B, 0x00]

/-- P1's STEP with 64 bytes of room, before its 20th micro-step, from the trace's row and the bytes produced so far. -/
def p1AtMatch : State :=
  let s := mid .ctrl 0x7D926800 0x7BA9F818 p1 64 (text 4)
  { s with ipos := 7, out := [0x41, 0x41, 0x41, 0x41], freq := { s.freq with ctrl := [129, 1, 1] } }

/-- The invariant, evaluated piece by piece. -/
def meets (s : State) : Bool :=
  Memory.wf s.win && decide s.cursorOk && decide s.configOk && decide s.bankOk && decide s.coderOk && decide s.matchOk
    && decide s.storedOk && decide s.adlerOk && decide s.windowOk && decide s.phaseOk

theorem inv_of_meets {s : State} (h : meets s = true) : s.Inv := by
  simp only [meets, Bool.and_eq_true, decide_eq_true_eq] at h
  obtain ⟨⟨⟨⟨⟨⟨⟨⟨⟨h1, h2⟩, h3⟩, h4⟩, h5⟩, h6⟩, h7⟩, h8⟩, h9⟩, h10⟩ := h
  exact ⟨h1, h2, fun _ => ⟨h3, h4, h5, h6, h7, h8, h9, h10⟩⟩

/-! ## WellFormed refuses -/

theorem test_wf_reservedOp67 : (Instr.reservedOp67 0x00000005).wellFormed = false := by decide
theorem test_wf_reservedOp8F : (Instr.reservedOp8F 0x00000007).wellFormed = false := by decide
theorem test_wf_len_low : (Instr.matchItem 1 1).wellFormed = false := by decide
theorem test_wf_len_high : (Instr.matchItem 258 1).wellFormed = false := by decide
theorem test_wf_dist_low : (Instr.matchItem 2 0).wellFormed = false := by decide
theorem test_wf_dist_high : (Instr.matchItem 2 33554432).wellFormed = false := by decide

/-! ## Words written out bit by bit (`30_encoding.md` R91, R92, R99-R104) -/

theorem test_decode_version :
    decode (wordCode 0b00000000000000000000000000000000) = .ok .version := by decide
theorem test_decode_init :
    decode (wordCode 0b00000000000000000000000000000001 0x00010004) = .ok (.init 0x00010004) := by decide
theorem test_decode_reinit :
    decode (wordCode 0b00000000000000000000000000000010 0x00000018) = .ok (.reinit 0x00000018) := by decide
theorem test_decode_deinit :
    decode (wordCode 0b00000000000000000000000000000011) = .ok .deinit := by decide
theorem test_decode_step :
    decode (wordCode 0b00000000000000000000000000000100 0 [0xAA] 3) = .ok (.step false [0xAA] 3) := by decide
theorem test_decode_step_final :
    decode (wordCode 0b00000000000000000000000000010100 0 [] 0) = .ok (.step true [] 0) := by decide
theorem test_decode_query :
    decode (wordCode 0b00000000000000000000010100000101) = .ok (.query 5) := by decide
theorem test_decode_op6 :
    decode (wordCode 0b00000000000000000000000000000110) = .ok (.reservedOp67 6) := by decide
theorem test_decode_op8 :
    decode (wordCode 0b00000000000000000000000000001000) = .ok (.reservedOp8F 8) := by decide
theorem test_decode_reserved_low :
    decode (wordCode 0b00000000000000000000000000100000) = .error .reservedBit := by decide
theorem test_decode_reserved_high :
    decode (wordCode 0b00000000000000000001000000000100) = .error .reservedBit := by decide
theorem test_decode_final :
    decode (wordCode 0b00000000000000000000000000010000) = .error .finalOutsideStep := by decide
theorem test_decode_qidx :
    decode (wordCode 0b00000000000000000000000100000100) = .error .qidxOutsideQuery := by decide
theorem test_decode_lit : decode (.symbols [0, 0x41]) = .ok (.lit 0x41) := by decide
/-- Slot 2 with the extra bits 0 and 1 is the distance 4 + 1 (R103). -/
theorem test_decode_match : decode (.symbols [1, 2, 2, 0, 1]) = .ok (.matchItem 4 5) := by decide
/-- The stored checksum of P1, 0x092C0209, most significant bit first (R104). -/
theorem test_decode_eos :
    decode (.symbols [2, 0, 0, 0, 0, 1, 0, 0, 1, 0, 0, 1, 0, 1, 1, 0, 0, 0, 0, 0, 0, 0, 0, 1, 0, 0, 0, 0, 0, 1, 0, 0, 1])
      = .ok (.eos 0x092C0209) := by decide
theorem test_decode_no_such_slot : decode (.symbols (1 :: 0 :: 25 :: List.replicate 25 0)) = .error .noSuchSlot := by
  decide

/-! ## The spec's worked examples, one step each -/

/-- R262. -/
theorem test_version : lastResult (nextOf (exec .version State.reset)) = statusValue .okay 1 := by decide +kernel
/-- R264: after INIT the parameter word reads back. -/
theorem test_init_cfg : lastResult (nextOf (exec (.query 5) session)) = statusValue .okay 0x00010004 := by decide +kernel
theorem test_init_phase : lastResult (nextOf (exec (.query 0) session)) = statusValue .okay 1 := by decide +kernel
/-- R265, R303. -/
theorem test_reinit_uninit :
    lastResult (nextOf (exec (.reinit 0x00010004) State.reset)) = statusOnly .usage := by decide +kernel
/-- R302. -/
theorem test_reinit_invalid : lastResult (nextOf (exec (.reinit 0x00000404) session)) = statusOnly .invalidParam := by
  decide +kernel
/-- R266. -/
theorem test_deinit : lastResult (nextOf (exec .deinit session)) = statusOnly .okay := by decide +kernel
theorem test_deinit_uninit : lastResult (nextOf (exec .deinit State.reset)) = statusOnly .usage := by decide +kernel
/-- R267, program P1. -/
theorem test_step_p1 : lastResult (nextOf (exec (.step true p1 64) session))
    = { status := 0x03, value := none, consumed := 14, produced := List.replicate 8 0x41 } := by decide +kernel
/-- R231: EOS alone. -/
theorem test_step_eos_alone : lastResult (nextOf
      (exec (.step true [0x00, 0xAA, 0xAA, 0xAA, 0xAA, 0x55, 0x55, 0x55, 0x00] 0) session))
    = { status := 0x03, value := none, consumed := 9, produced := [] } := by decide +kernel
/-- R192: the checksum of "AAAAAAAA". -/
theorem test_query_csum : lastResult (nextOf (exec (.query 4) (text 8))) = statusValue .okay 0x092C0209 := by
  decide +kernel
theorem test_query_reserved : lastResult (nextOf (exec (.query 6) State.reset)) = statusValue .badCommand 0 := by
  decide +kernel
/-- R269. -/
theorem test_op6 : lastResult (nextOf (exec (.reservedOp67 6) session)) = statusValue .badCommand 0 := by decide +kernel
theorem test_op8 : lastResult (nextOf (exec (.reservedOp8F 8) session)) = statusValue .badCommand 0 := by decide +kernel
/-- R229: the first item of P1 (trace rows 6 to 8). -/
theorem test_lit :
    let t := nextOf (exec (.lit 0x41) (mid .ctrl 0xFFFFFFFF 0x15BF741B [] 1 session))
    t.out = [0x41] ∧ t.csumComputed = 0x00420042 ∧ t.freq.ctrl = [33, 1, 1] ∧ t.freq.lit.getD 0x41 0 = 33
      ∧ t.range = 0x00555555 ∧ t.code = 0x0014C986 := by decide +kernel
/-- R230: the match of P1 (trace rows 20 to 30). -/
theorem test_match :
    let t := nextOf (exec (.matchItem 4 4) p1AtMatch)
    t.out = List.replicate 8 0x41 ∧ t.csumComputed = 0x092C0209 ∧ t.ipos = 9 ∧ t.freq.ctrl = [129, 33, 1]
      ∧ t.range = 0x0C4505D9 ∧ t.code = 0x0C3270E4 := by decide +kernel
/-- R231: the end of P1 (trace rows 31 to 69). -/
theorem test_eos :
    let t := nextOf (exec (.eos 0x092C0209) (nextOf (exec (.matchItem 4 4) p1AtMatch)))
    lastResult t = { status := 0x03, value := none, consumed := 14, produced := List.replicate 8 0x41 }
      ∧ t.freq.ctrl = [129, 33, 33] ∧ t.range = 0x13452300 ∧ t.dstate = .done := by decide +kernel
/-- R271: P1 with too little room, and with just enough. -/
theorem test_oneshot_small : lastResult (nextOf (exec (.oneshot 0x00010004 p1 7 true) State.reset))
    = { status := 0x30, value := none, consumed := 0, produced := List.replicate 7 0x41 } := by decide +kernel
theorem test_oneshot : lastResult (nextOf (exec (.oneshot 0x00010004 p1 8 true) State.reset))
    = { status := 0x03, value := some 0x092C0209, consumed := 0, produced := List.replicate 8 0x41 } := by decide +kernel

/-! ## Hypotheses that can be met

One theorem per statement with hypotheses: `test_meets_<statement>`, each clause at a boundary of its range. -/

/-- A STEP about to emit a literal, with `oc` bytes of room. -/
def atEmit (oc : Nat) : State := { mid .emit 0x00555555 0x0014C986 [] oc session with pendByte := 0x41 }

/-- A STEP about to copy the last byte of a match at distance 4, with `oc` bytes of room. -/
def atCopy (oc : Nat) : State :=
  { mid .copy 0x0C4505D9 0x0C3270E4 [] oc (text 4) with mlen := 1, mdist := 4 }

/-- A STEP about to decode a slot after `n` bytes, with `CODE` given. -/
def atSlot (n : Nat) (code : Word) : State := { mid .slot 0xFFFFFFFF code [] 9 (text n) with mlen := 2 }

/-- A STEP about to decode a distance bit after 4 bytes. -/
def atExtra (code mdist : Word) (xbits : BitVec 5) : State :=
  { mid .extra 0xFFFFFFFF code [] 9 (text 4) with mlen := 2, mdist := mdist, xbits := xbits }

/-- A STEP about to decode a bit of the stored checksum after 8 bytes. -/
def atCsum (code stored : Word) (count : BitVec 6) : State :=
  { mid .csum 0x268A4600 code [] 0 (text 8) with csumStored := stored, csumCnt := count }

/-- A STEP about to decode EOS with a stored checksum of 0, checking disabled. -/
def atEos (range : Word) (input : List Byte) : State :=
  { mid .ctrl range (BitVec.ofNat 32 (range.toNat / 3 * 2)) input 0 session with cfgCsumEn := 0 }

/-- `TOTAL_OUT` at its largest value, the window full, about to decode the literal 0. -/
def atTop : State := { mid .ctrl 0xFFFFFFFF 0 [] 9 (text 16) with totalOut := 0xFFFFFFFFFFFFFFFF }

/-- A session that failed, and one whose stream has ended. -/
def failed : State := { session with phase := .failed, err := 0x24, dstate := .csum, initCnt := 5 }
def ended : State := nextOf (exec (.step true p1 64) session)

/-- A suspended session: P1 cut after its prefix, and with 6 bytes of room. -/
def starved : State := nextOf (exec (.step false (p1.take 5) 64) session)
def crowded : State := nextOf (exec (.step true p1 6) session)

theorem session_inv : session.Inv := inv_of_meets (by decide +kernel)
theorem starved_inv : starved.Inv := inv_of_meets (by decide +kernel)
theorem crowded_inv : crowded.Inv := inv_of_meets (by decide +kernel)

theorem test_meets_EveryStepKeepsInvariant :
    p1AtMatch.Inv ∧ step p1AtMatch = .next (nextOf (step p1AtMatch)) :=
  ⟨inv_of_meets (by decide +kernel), next_of_runs (by decide +kernel)⟩
theorem test_meets_EveryStepKeepsInvariant_host :
    let s := { session with requests := [.command ⟨0x14, 0, p1, 64⟩] }
    s.Inv ∧ step s = .next (nextOf (step s)) :=
  ⟨inv_of_meets (by decide +kernel), next_of_runs (by decide +kernel)⟩
/-- The one fault, at the largest count. -/
theorem test_meets_StepsFaultOnlyOnOverflow : atTop.Inv ∧ (match step atTop with
    | .fault f => f == .totalOutOverflow | _ => false) = true :=
  ⟨inv_of_meets (by decide +kernel), by decide +kernel⟩
theorem test_meets_StepRunsDecodedRequest :
    let q : Request := .command ⟨0x00000003, 0, [], 0⟩
    let s := { session with requests := [q] }
    s.phase ≠ .decoding ∧ s.requests = q :: [] ∧ decode (.request q) = .ok .deinit := by decide +kernel
theorem test_meets_StepRunsStreamItem :
    p1AtMatch.phase = .decoding ∧ (readItem p1AtMatch).isSome = true
      ∧ (atCopy 1).phase = .decoding ∧ readItem (atCopy 1) = none := by decide +kernel
theorem test_meets_IdleCoreKeepsState : starved.phase ≠ .decoding ∧ starved.requests = [] := by decide +kernel
/-- Each kind of illegal word: a reserved opcode, a reserved bit at either end of its fields, FINAL, QIDX. -/
theorem test_meets_IllegalWordsRefused :
    (wordIllegal 0x00000006 ∧ wordIllegal 0x0000000F ∧ wordIllegal 0x00000020 ∧ wordIllegal 0x00001004)
      ∧ (wordIllegal 0x80000005 ∧ wordIllegal 0x00000010 ∧ wordIllegal 0x00000100)
      ∧ (¬ wordIllegal 0x00000014 ∧ ¬ wordIllegal 0x00000F05)
      ∧ (let c : Command := ⟨0x00000006, 0, [], 0⟩
         let s := { State.reset with requests := [.command c] }
         s.phase ≠ .decoding ∧ s.requests = .command c :: []) :=
  ⟨by decide, by decide, by decide, by decide +kernel⟩
theorem test_meets_DecodeEncodeRoundTrip :
    (Instr.matchItem 2 1).wellFormed = true ∧ (Instr.matchItem 257 33554431).wellFormed = true
      ∧ (Instr.reservedOp67 0xFFFFFFF7).wellFormed = true ∧ (Instr.reservedOp8F 0x00000008).wellFormed = true := by
  decide
/-- The ends of PARAM's ranges, legal and not. -/
theorem test_meets_InitStartsSession :
    paramLegal 0x00000004 ∧ paramLegal 0x00010318 ∧ ¬ paramLegal 0x00000003 ∧ ¬ paramLegal 0x00000019
      ∧ ¬ paramLegal 0x00000404 ∧ ¬ paramLegal 0x00000024 ∧ ¬ paramLegal 0x00020004 := by decide
theorem test_meets_ReinitStartsSession :
    State.reset.phase = .uninit ∧ failed.phase ≠ .uninit ∧ paramLegal 0x00000004 ∧ ¬ paramLegal 0x00000003 := by
  decide +kernel
theorem test_meets_InvalidParamRefused : ¬ paramLegal 0x00000003 ∧ failed.phase ≠ .uninit := by decide +kernel
theorem test_meets_ReinitLeavesInitState :
    paramLegal 0x00010004 ∧ State.reset.cursorClosed ∧ ended.cursorClosed ∧ ended.phase ≠ .uninit
      ∧ runs (exec (.init 0x00010004) State.reset) = true ∧ runs (exec (.reinit 0x00010004) ended) = true := by
  decide +kernel
theorem test_meets_DeinitReleasesSession : State.reset.phase = .uninit ∧ session.phase ≠ .uninit := by decide +kernel
theorem test_meets_UsageErrors :
    State.reset.phase = .uninit ∧ failed.phase = .failed ∧ 1 ≤ (1 : BitVec 4).toNat ∧ (5 : BitVec 4).toNat ≤ 5 := by
  decide +kernel
theorem test_meets_QueryAnswers :
    6 ≤ (6 : BitVec 4).toNat ∧ (5 : BitVec 4).toNat < 6 ∧ State.reset.phase = .uninit ∧ (5 : BitVec 4) ≠ 0
      ∧ session.phase ≠ .uninit ∧ (0 : BitVec 4).toNat < 6 := by decide +kernel
theorem test_meets_StepInTerminalPhase : ended.phase = .success ∧ failed.phase = .failed := by decide +kernel
/-- The largest room that cannot overflow; then one more byte of room, in a STEP that returns; and one that faults. -/
theorem test_meets_StepAlwaysReturns :
    (session.Inv ∧ session.phase.resumable ∧ session.totalOut.toNat + (2 ^ 64 - 1) < 2 ^ 64)
      ∧ 2 ^ 64 ≤ session.totalOut.toNat + 2 ^ 64
      ∧ (let s := { atTop.closeCursor with phase := .needInput }
         s.Inv ∧ s.phase.resumable ∧ 2 ^ 64 ≤ s.totalOut.toNat + 1) :=
  ⟨⟨session_inv, by decide +kernel, by decide +kernel⟩, by decide +kernel, inv_of_meets (by decide +kernel),
    by decide +kernel, by decide +kernel⟩
theorem test_meets_StepWithinProgressBound : crowded.Inv ∧ crowded.phase.resumable :=
  ⟨crowded_inv, by decide +kernel⟩
/-- A first STEP that stops for room, and one that stops for input. -/
theorem test_meets_ChunkIndependence :
    session.Inv ∧ session.phase.resumable
      ∧ exec (.step true p1 6) session = .next crowded ∧ crowded.responses = session.responses ++ [lastResult crowded]
      ∧ crowded.phase = .needOutputSpace
      ∧ exec (.step true (p1.drop (lastResult crowded).consumed ++ []) 2) crowded
          = .next (nextOf (exec (.step true (p1.drop (lastResult crowded).consumed ++ []) 2) crowded))
      ∧ exec (.step false (p1.take 5) 64) session = .next starved
      ∧ starved.responses = session.responses ++ [lastResult starved] ∧ starved.phase = .needInput
      ∧ exec (.step true ((p1.take 5).drop (lastResult starved).consumed ++ p1.drop 5) 8) starved
          = .next (nextOf (exec (.step true ((p1.take 5).drop (lastResult starved).consumed ++ p1.drop 5) 8) starved)) :=
  ⟨session_inv, by decide +kernel, next_of_runs (by decide +kernel), by decide +kernel, by decide +kernel,
    next_of_runs (by decide +kernel), next_of_runs (by decide +kernel), by decide +kernel, by decide +kernel,
    next_of_runs (by decide +kernel)⟩
theorem test_meets_StepWithoutInput :
    session.phase.resumable ∧ session.cursorClosed ∧ session.dstate = .rcInit
      ∧ (let s := { (mid .tail 0x00FFFFFF 0 [] 0 session).closeCursor with phase := .needInput }
         s.phase.resumable ∧ s.cursorClosed ∧ s.dstate.decodes ∧ s.range.toNat < 2 ^ 24) := by decide +kernel
theorem test_meets_StepWithoutRoom :
    (let s := { (atEmit 0).closeCursor with phase := .needOutputSpace }
     s.phase.resumable ∧ s.cursorClosed ∧ s.dstate = .emit)
      ∧ crowded.phase.resumable ∧ crowded.cursorClosed ∧ crowded.dstate = .copy := by decide +kernel
theorem test_meets_StepFoldsChecksum :
    session.phase.resumable ∧ exec (.step true p1 64) session = .next ended
      ∧ ended.responses = session.responses ++ [lastResult ended] :=
  ⟨by decide +kernel, next_of_runs (by decide +kernel), by decide +kernel⟩
theorem test_meets_SuccessMeansVerified :
    session.Inv ∧ session.phase.resumable ∧ exec (.step true p1 64) session = .next ended ∧ ended.phase = .success
      ∧ session.cfgCsumEn = 1 :=
  ⟨session_inv, by decide +kernel, next_of_runs (by decide +kernel), by decide +kernel, by decide +kernel⟩
theorem test_meets_WindowHoldsProducedBytes :
    session.Inv ∧ session.phase.resumable ∧ exec (.step true p1 64) session = .next ended
      ∧ ended.responses = session.responses ++ [lastResult ended] ∧ 7 < (lastResult ended).produced.length
      ∧ ended.totalOut.toNat ≤ session.totalOut.toNat + 0 + 2 ^ session.cfgDictLog2.toNat :=
  ⟨session_inv, by decide +kernel, next_of_runs (by decide +kernel), by decide +kernel, by decide +kernel,
    by decide +kernel⟩
/-- A STEP of one byte after 16: byte 1 is the oldest of the last 16 and was produced before the STEP. -/
theorem test_meets_WindowHoldsProducedBytes_before :
    let s := { (mid .copy 0x0C4505D9 0x0C3270E4 [] 0 (text 16)).closeCursor with
      mlen := 2, mdist := 1, phase := .needOutputSpace }
    let i := Instr.step false [] 1
    s.Inv ∧ s.phase.resumable ∧ exec i s = .next (nextOf (exec i s))
      ∧ (nextOf (exec i s)).responses = s.responses ++ [lastResult (nextOf (exec i s))]
      ∧ 1 < s.totalOut.toNat ∧ (nextOf (exec i s)).totalOut.toNat = 1 + 2 ^ s.cfgDictLog2.toNat :=
  ⟨inv_of_meets (by decide +kernel), by decide +kernel, next_of_runs (by decide +kernel), by decide +kernel,
    by decide +kernel, by decide +kernel⟩
theorem test_meets_SessionsIgnoreUnwrittenWindow :
    let s' := { crowded with draws := crowded.draws + 1 }
    let i := Instr.step true (p1.drop 9) 64
    crowded.Inv ∧ s'.Inv ∧ crowded.phase ≠ .uninit ∧ crowded.phase ≠ .decoding ∧ crowded.agrees s' ∧ i ≠ .deinit
      ∧ exec i crowded = .next (nextOf (exec i crowded))
      ∧ (nextOf (exec i crowded)).responses = crowded.responses ++ [lastResult (nextOf (exec i crowded))] :=
  ⟨crowded_inv, inv_of_meets (by decide +kernel), by decide +kernel, by decide +kernel, by decide +kernel,
    by decide +kernel, next_of_runs (by decide +kernel), by decide +kernel⟩
theorem test_meets_PhaseTransitions :
    (State.reset.phase ≠ .decoding ∧ exec (.init 0x00010004) State.reset = .next session
        ∧ session.phase ≠ State.reset.phase)
      ∧ (ended.phase ≠ .decoding ∧ exec (.reinit 4) ended = .next (nextOf (exec (.reinit 4) ended))
        ∧ (nextOf (exec (.reinit 4) ended)).phase ≠ ended.phase)
      ∧ (session.phase ≠ .decoding ∧ exec .deinit session = .next (nextOf (exec .deinit session))
        ∧ (nextOf (exec .deinit session)).phase ≠ session.phase)
      ∧ (exec (.step true p1 64) session = .next ended ∧ ended.phase ≠ session.phase) :=
  ⟨⟨by decide +kernel, next_of_runs (by decide +kernel), by decide +kernel⟩,
    ⟨by decide +kernel, next_of_runs (by decide +kernel), by decide +kernel⟩,
    ⟨by decide +kernel, next_of_runs (by decide +kernel), by decide +kernel⟩,
    next_of_runs (by decide +kernel), by decide +kernel⟩
theorem test_meets_ConfigurationFrame :
    exec (.step true p1 64) session = .next ended ∧ Instr.step true p1 64 ≠ .deinit
      ∧ exec (.matchItem 4 4) p1AtMatch = .next (nextOf (exec (.matchItem 4 4) p1AtMatch)) :=
  ⟨next_of_runs (by decide +kernel), by decide, next_of_runs (by decide +kernel)⟩
/-- A continuing micro-step that decodes, and the two that produce. -/
theorem test_meets_MicroStepFrame :
    microStep p1AtMatch = .cont (microState (microStep p1AtMatch)) ∧ p1AtMatch.dstate ≠ .emit
      ∧ p1AtMatch.dstate ≠ .copy ∧ microStep (atEmit 1) = .cont (microState (microStep (atEmit 1)))
      ∧ (atEmit 1).dstate = .emit ∧ microStep (atCopy 1) = .cont (microState (microStep (atCopy 1)))
      ∧ (atCopy 1).dstate = .copy := by decide +kernel
theorem test_meets_SuspensionWritesNothing :
    microStep { mid .tail 0x00FFFFFF 0 [] 0 session with final := false }
        = .stop .needInput { mid .tail 0x00FFFFFF 0 [] 0 session with final := false, phase := .needInput }
      ∧ microStep (atCopy 0) = .stop .needOutputSpace { atCopy 0 with phase := .needOutputSpace }
      ∧ microStep (mid .tail 0x01000000 0 [] 0 session)
        = .stop .success { mid .tail 0x01000000 0 [] 0 session with phase := .success, dstate := .done } := by
  decide +kernel
/-- Each failure, in its micro-step. -/
theorem test_meets_FailureEntry :
    microStep (mid .ctrl 0xFFFFFFFF 0xFFFFFFFF [] 0 session)
        = .stop .corruptSymbol (microState (microStep (mid .ctrl 0xFFFFFFFF 0xFFFFFFFF [] 0 session)))
      ∧ microStep (mid .ctrl 0x00FFFFFF 0 [] 0 session)
        = .stop .truncated (microState (microStep (mid .ctrl 0x00FFFFFF 0 [] 0 session)))
      ∧ microStep (mid .tail 0x01000000 1 [] 0 session)
        = .stop .corruptFormat (microState (microStep (mid .tail 0x01000000 1 [] 0 session)))
      ∧ microStep (atSlot 0 0) = .stop .corruptDistance (microState (microStep (atSlot 0 0)))
      ∧ microStep (atCsum 0x13452300 0x04960105 1)
        = .stop .checksum (microState (microStep (atCsum 0x13452300 0x04960105 1)))
      ∧ Status.corruptSymbol.isFailure := by decide +kernel
/-- The last code value that decodes and the first that does not. -/
theorem test_meets_DecodeFreqSelectsSymbol :
    let f : List Counter := [1, 1]
    positive f = true ∧ 2 ≤ f.length ∧ total f ≤ 2 ^ 16 ∧ 2 ^ 24 ≤ (0x01000000 : Word).toNat
      ∧ total f ≤ (0x01000000 : Word).toNat / ((0x01000000 : Word).toNat / total f)
      ∧ (0x00FFFFFF : Word).toNat / ((0x01000000 : Word).toNat / total f) < total f := by decide
theorem test_meets_DecodeKeepsBounds :
    let f : List Counter := [1, 1]
    positive f = true ∧ 2 ≤ f.length ∧ total f ≤ 2 ^ 16 ∧ 2 ^ 24 ≤ (0x01000000 : Word).toNat
      ∧ decodeFreq f 0x01000000 0x00FFFFFF = some { sym := 1, range := 0x00800000, code := 0x007FFFFF } := by decide
theorem test_meets_DirectBit :
    (let s := mid .csum 0x01000000 0x01000000 [] 0 session
     2 ^ 24 ≤ s.range.toNat ∧ 2 ≤ s.code.toNat / (s.range.toNat / 2))
      ∧ (let s := mid .csum 0x01000000 0x00FFFFFF [] 0 session
         2 ^ 24 ≤ s.range.toNat ∧ s.code.toNat / (s.range.toNat / 2) < 2) := by decide +kernel
/-- A total that lands on the threshold (no rescale), and one past it. -/
theorem test_meets_ModelUpdateCounters :
    (let s := { session with freq := { session.freq with ctrl := [990, 1, 1] } }
     s.cfgRate.toNat < 4 ∧ modelOk s.cfgRate.toNat 3 (s.freq.get .ctrl)
       ∧ total (s.freq.get .ctrl) + 32 ≤ 1024 * 4 ^ s.cfgRate.toNat)
      ∧ (let s := { session with freq := { session.freq with ctrl := [991, 1, 1] } }
         s.cfgRate.toNat < 4 ∧ modelOk s.cfgRate.toNat 3 (s.freq.get .ctrl)
           ∧ ¬ total (s.freq.get .ctrl) + 32 ≤ 1024 * 4 ^ s.cfgRate.toNat) := by decide +kernel
theorem test_meets_ModelUpdateKeepsBounds : modelOk 3 3 [65534, 1, 1] ∧ modelOk 0 256 (List.replicate 256 4) := by
  decide +kernel
theorem test_meets_NormConsumesOneByte :
    (let s := mid .extra 0x00FFFFFF 0 [0x4B] 0 session
     s.dstate.decodes ∧ s.range.toNat < 2 ^ 24 ∧ s.ipos < s.input.length)
      ∧ (let s := mid .tail 0x00FFFFFF 0 [] 0 session
         s.dstate.decodes ∧ s.range.toNat < 2 ^ 24 ∧ ¬ s.ipos < s.input.length ∧ s.final = true)
      ∧ { mid .tail 0x00FFFFFF 0 [] 0 session with final := false }.final = false := by decide +kernel
theorem test_meets_InitialByteLoads :
    (let s := startStep true [] 0 session
     s.dstate = .rcInit ∧ s.initCnt.toNat < 5 ∧ ¬ s.ipos < s.input.length ∧ s.final = true)
      ∧ (let s := startStep false [] 0 session
         s.dstate = .rcInit ∧ ¬ s.ipos < s.input.length ∧ s.final = false)
      ∧ (let s := startStep false [1] 0 session
         s.dstate = .rcInit ∧ s.ipos < s.input.length ∧ s.initCnt = 0 ∧ s.inputByte ≠ 0)
      ∧ (let s := startStep false [0] 0 session
         s.dstate = .rcInit ∧ s.ipos < s.input.length ∧ s.initCnt = 0 ∧ s.inputByte = 0)
      ∧ (let s := { startStep false [0x1B] 0 session with initCnt := 4, code := 0x0015BF74 }
         s.dstate = .rcInit ∧ s.initCnt.toNat < 5 ∧ s.ipos < s.input.length ∧ s.initCnt ≠ 0) := by decide +kernel
/-- Each control symbol, and a code value past the last. -/
theorem test_meets_CtrlDispatch :
    (mid .ctrl 0xFFFFFFFF 0xAAAAAAAA [] 0 session).Inv ∧ (mid .ctrl 0xFFFFFFFF 0xFFFFFFFF [] 0 session).Inv
      ∧ (mid .ctrl 0xFFFFFFFF 0 [] 0 session).phase = .decoding
      ∧ decodeFreq session.freq.ctrl 0xFFFFFFFF 0xFFFFFFFF = none
      ∧ (decodeFreq session.freq.ctrl 0xFFFFFFFF 0x55555554).map Decoded.sym = some 0
      ∧ (decodeFreq session.freq.ctrl 0xFFFFFFFF 0x55555555).map Decoded.sym = some 1
      ∧ (decodeFreq session.freq.ctrl 0xFFFFFFFF 0xAAAAAAAA).map Decoded.sym = some 2 :=
  ⟨inv_of_meets (by decide +kernel), inv_of_meets (by decide +kernel), by decide +kernel, by decide +kernel,
    by decide +kernel, by decide +kernel, by decide +kernel⟩
theorem test_meets_LiteralAndLengthDecodes :
    (mid .lit 0xFFFFFFFF 0xFFFFFFFF [] 0 session).Inv ∧ (mid .len 0xFFFFFFFF 0xFFFFFFFF [] 0 session).Inv
      ∧ (mid .lit 0xFFFFFFFF 0 [] 0 session).phase = .decoding
      ∧ decodeFreq session.freq.lit 0xFFFFFFFF 0xFFFFFFFF = none
      ∧ decodeFreq session.freq.len 0xFFFFFFFF 0xFFFFFFFF = none
      ∧ (decodeFreq session.freq.lit 0xFFFFFFFF 0xFFFFFEFF).map Decoded.sym = some 255
      ∧ (decodeFreq session.freq.len 0xFFFFFFFF 0xFFFFFEFF).map Decoded.sym = some 255 :=
  ⟨inv_of_meets (by decide +kernel), inv_of_meets (by decide +kernel), by decide +kernel, by decide +kernel,
    by decide +kernel, by decide +kernel, by decide +kernel⟩
/-- Slot 0 with nothing produced and with one byte produced, the largest slot, and a code value past it. -/
theorem test_meets_SlotDecode :
    (atSlot 0 0).Inv ∧ (atSlot 1 0).Inv ∧ (atSlot 1 0xFFFFFFFF).Inv ∧ (atSlot 1 0).phase = .decoding
      ∧ decodeFreq (text 1).freq.slot 0xFFFFFFFF 0xFFFFFFFF = none
      ∧ (decodeFreq (text 1).freq.slot 0xFFFFFFFF 0).map Decoded.sym = some 0
      ∧ (decodeFreq (text 1).freq.slot 0xFFFFFFFF 0xFFFFFFFE).map Decoded.sym = some 4
      ∧ (atSlot 0 0).totalOut = 0 ∧ 1 ≤ (atSlot 1 0).totalOut.toNat :=
  ⟨inv_of_meets (by decide +kernel), inv_of_meets (by decide +kernel), inv_of_meets (by decide +kernel),
    by decide +kernel, by decide +kernel, by decide +kernel, by decide +kernel, by decide +kernel, by decide +kernel⟩
/-- After 4 bytes: a bit with more to come; the last bit giving distance 4 and distance 5; a code value past the
table. -/
theorem test_meets_ExtraBitDecode :
    (atExtra 0xFFFFFFFF 1 2).Inv ∧ (atExtra 0 2 1).Inv ∧ (atExtra 0x7FFFFFFF 2 1).Inv
      ∧ (atExtra 0 1 2).phase = .decoding
      ∧ 2 ≤ (0xFFFFFFFF : Word).toNat / ((0xFFFFFFFF : Word).toNat / 2)
      ∧ 2 * 2 + 0 ≤ (atExtra 0 2 1).totalOut.toNat ∧ (atExtra 0 2 1).totalOut.toNat < 2 * 2 + 1 :=
  ⟨inv_of_meets (by decide +kernel), inv_of_meets (by decide +kernel), inv_of_meets (by decide +kernel),
    by decide +kernel, by decide, by decide +kernel, by decide +kernel⟩
theorem test_meets_EmitProducesPendingByte :
    (let s := atEmit 1
     Memory.wf s.win = true ∧ s.phase = .decoding ∧ s.dstate = .emit ∧ s.out.length < s.ocap
       ∧ s.totalOut.toNat + 1 < 2 ^ 64) ∧ ¬ (atEmit 0).out.length < (atEmit 0).ocap := by decide +kernel
theorem test_meets_CopyProducesWindowByte :
    (atCopy 1).Inv ∧ (atCopy 0).Inv ∧ (atCopy 1).phase = .decoding ∧ (atCopy 1).dstate = .copy
      ∧ (atCopy 1).out.length < (atCopy 1).ocap ∧ (atCopy 1).totalOut.toNat + 1 < 2 ^ 64
      ∧ ¬ (atCopy 0).out.length < (atCopy 0).ocap :=
  ⟨inv_of_meets (by decide +kernel), inv_of_meets (by decide +kernel), by decide +kernel, by decide +kernel,
    by decide +kernel, by decide +kernel, by decide +kernel⟩
/-- The last bit of P1's stored checksum (R222's example), the same with a wrong one, a bit with more to come, and a
code value past the table. -/
theorem test_meets_ChecksumBitDecode :
    (atCsum 0x13452300 0x04960104 1).Inv ∧ (atCsum 0x13452300 0x04960105 1).Inv ∧ (atCsum 0x13452300 0x024B0082 2).Inv
      ∧ (mid .csum 0xFFFFFFFF 0xFFFFFFFF [] 0 session).phase = .decoding
      ∧ { mid .csum 0xFFFFFFFF 0xFFFFFFFF [] 0 session with csumCnt := 32 }.Inv
      ∧ (atCsum 0x13452300 0x04960104 1).cfgCsumEn = 1
      ∧ (atCsum 0 0 1).adlerB.toNat * 2 ^ 16 + (atCsum 0 0 1).adlerA.toNat = 2 * 0x04960104 + 1 :=
  ⟨inv_of_meets (by decide +kernel), inv_of_meets (by decide +kernel), inv_of_meets (by decide +kernel),
    by decide +kernel, inv_of_meets (by decide +kernel), by decide +kernel, by decide +kernel⟩
theorem test_meets_TailEndsStream :
    (let s := mid .tail 0x01000000 0 [] 0 session
     s.phase = .decoding ∧ s.dstate = .tail ∧ 2 ^ 24 ≤ s.range.toNat ∧ s.code = 0)
      ∧ (mid .tail 0x01000000 1 [] 0 session).code ≠ 0 := by decide +kernel
theorem test_meets_LitCompletes :
    let s := mid .ctrl 0xFFFFFFFF 0x15BF741B [] 1 session
    s.Inv ∧ (∃ u, readItem s = some (.lit 0x41, .cont u)) ∧ s.out.length < s.ocap ∧ s.totalOut.toNat + 1 < 2 ^ 64 :=
  ⟨inv_of_meets (by decide +kernel), ⟨fieldsEnd (mid .ctrl 0xFFFFFFFF 0x15BF741B [] 1 session), by decide +kernel⟩,
    by decide +kernel, by decide +kernel⟩
/-- The largest valid distance, `CAP`, after `CAP + 1` bytes, with just enough room. -/
theorem test_meets_MatchCompletes :
    let s := mid .ctrl 0xFFFFFFFF 0x55999999 [0x00] 2 (text 17)
    s.Inv ∧ (∃ u, readItem s = some (.matchItem 2 16, .cont u)) ∧ s.out.length + 2 ≤ s.ocap
      ∧ s.totalOut.toNat + 2 < 2 ^ 64 :=
  ⟨inv_of_meets (by decide +kernel), ⟨fieldsEnd (mid .ctrl 0xFFFFFFFF 0x55999999 [0x00] 2 (text 17)), by decide +kernel⟩,
    by decide +kernel, by decide +kernel⟩
/-- A distance one past `CAP` but not past `TOTAL_OUT`, and distance 1 with nothing produced. -/
theorem test_meets_MatchDistanceFails :
    (let s := mid .ctrl 0xFFFFFFFF 0x559AAAAA [0x10] 2 (text 17)
     s.Inv ∧ (readItem s).map Prod.fst = some (.matchItem 2 17) ∧ 2 ^ s.cfgDictLog2.toNat < 17)
      ∧ (let s := mid .ctrl 0xFFFFFFFF 0x55555555 [0x00, 0x00] 2 session
         s.Inv ∧ (readItem s).map Prod.fst = some (.matchItem 2 1) ∧ s.totalOut.toNat < 1) :=
  ⟨⟨inv_of_meets (by decide +kernel), by decide +kernel, by decide +kernel⟩,
    inv_of_meets (by decide +kernel), by decide +kernel, by decide +kernel⟩
theorem test_meets_EosCompletes :
    let s := atEos 0xFFFFFFFF [0, 0, 0, 0]
    s.Inv ∧ ∃ u, readItem s = some (.eos 0, .cont u) ∧ 2 ^ 24 ≤ u.range.toNat ∧ u.code = 0 :=
  ⟨inv_of_meets (by decide +kernel), fieldsEnd (atEos 0xFFFFFFFF [0, 0, 0, 0]), by decide +kernel⟩
/-- A tail of one byte, 0 and not 0, and an empty one with `CODE` not 0. -/
theorem test_meets_EosTail :
    (let s := atEos 0x02600000 [0, 0, 0, 0, 0]
     s.Inv ∧ ∃ u, readItem s = some (.eos 0, .cont u) ∧ ¬ 2 ^ 24 ≤ u.range.toNat ∧ u.ipos + 1 = s.input.length
       ∧ u.code = 0 ∧ s.input.getD (u.ipos + 0) 0 = 0)
      ∧ (let s := atEos 0x02600000 [0, 0, 0, 0, 1]
         s.Inv ∧ ∃ u, readItem s = some (.eos 0, .cont u) ∧ ¬ 2 ^ 24 ≤ u.range.toNat
           ∧ s.input.getD (u.ipos + 0) 0 ≠ 0)
      ∧ (let s := atEos 0xFFFFFFFF [0, 0, 0, 1]
         s.Inv ∧ ∃ u, readItem s = some (.eos 0, .cont u) ∧ 2 ^ 24 ≤ u.range.toNat ∧ u.code ≠ 0) :=
  ⟨⟨inv_of_meets (by decide +kernel), fieldsEnd (atEos 0x02600000 [0, 0, 0, 0, 0]), by decide +kernel⟩,
    ⟨inv_of_meets (by decide +kernel), fieldsEnd (atEos 0x02600000 [0, 0, 0, 0, 1]), by decide +kernel⟩,
    inv_of_meets (by decide +kernel), fieldsEnd (atEos 0xFFFFFFFF [0, 0, 0, 1]), by decide +kernel⟩
theorem test_meets_EosChecksumFails :
    let s := { atEos 0xFFFFFFFF [0, 0, 0, 0] with cfgCsumEn := 1 }
    s.Inv ∧ (readItem s).map Prod.fst = some (.eos 0) ∧ s.cfgCsumEn = 1
      ∧ (0 : Word).toNat ≠ s.adlerB.toNat * 2 ^ 16 + s.adlerA.toNat :=
  ⟨inv_of_meets (by decide +kernel), by decide +kernel, by decide +kernel, by decide +kernel⟩
/-- An item that completes, one that ends the STEP, one that faults, and one whose last check fails. -/
theorem test_meets_ItemsAreMicroSteps :
    (p1AtMatch.Inv ∧ p1AtMatch.phase = .decoding ∧ ∃ u, readItem p1AtMatch = some (.matchItem 4 4, .cont u))
      ∧ (let s := atEos 0xFFFFFFFF [0, 0, 0, 0]
         s.Inv ∧ s.phase = .decoding ∧ ∃ u, readItem s = some (.eos 0, .cont u))
      ∧ (atTop.Inv ∧ atTop.phase = .decoding ∧ ∃ u, readItem atTop = some (.lit 0, .cont u))
      ∧ (let s := mid .ctrl 0xFFFFFFFF 0x559AAAAA [0x10] 2 (text 17)
         s.Inv ∧ s.phase = .decoding ∧ ∃ w, readItem s = some (.matchItem 2 17, .stop .corruptDistance w)) :=
  ⟨⟨inv_of_meets (by decide +kernel), by decide +kernel, fieldsEnd p1AtMatch, by decide +kernel⟩,
    ⟨inv_of_meets (by decide +kernel), by decide +kernel, fieldsEnd (atEos 0xFFFFFFFF [0, 0, 0, 0]), by decide +kernel⟩,
    ⟨inv_of_meets (by decide +kernel), by decide +kernel, fieldsEnd atTop, by decide +kernel⟩,
    inv_of_meets (by decide +kernel), by decide +kernel,
    fieldsEnd (mid .ctrl 0xFFFFFFFF 0x559AAAAA [0x10] 2 (text 17)), by decide +kernel⟩
theorem test_meets_OneshotRefusals :
    session.phase ≠ .uninit ∧ State.reset.phase = .uninit ∧ ¬ paramLegal 0x00000019 := by decide +kernel
theorem test_meets_OneshotRunsCommands :
    State.reset.phase = .uninit ∧ State.reset.cursorClosed ∧ paramLegal 0x00010004 ∧ 2 ^ 64 - 1 < 2 ^ 64 := by
  decide +kernel
theorem test_meets_InstancesAreIndependent :
    let p : Platform := { cores := [State.reset, { State.reset with requests := [.command ⟨1, 4, [], 0⟩] }] }
    (0 : Nat) ≠ 1 ∧ p.stepAt 0 = .next p ∧ ∃ q, p.stepAt 1 = .next q ∧ q ≠ p :=
  ⟨by decide, by rfl, _, rfl, by decide +kernel⟩

/-! ## What the host asks: each row of the table, placed, runs as the first instruction after reset -/

theorem test_place_match : State.reset.withFetchWord 2 1 = placeItem 1 State.reset
    ∧ (readItem (State.reset.withFetchWord 2 1)).map Prod.fst = some (.matchItem 2 1) := by decide +kernel
theorem test_place_step : (State.reset.withFetchWord 32 4).requests = [.command ⟨4, 0, [], 0⟩] := by decide +kernel

end Sys2Proof.Tests
end

section
/-! SUPPORT. Everything a micro-step can do, said once: `MicroStepCase s m` lists the outcomes `m` of a micro-step in
`s`, each with the conditions it is taken under and the whole state it leaves (`43_decode_driver.md` R211-R226). A
fact about every micro-step is a case analysis of `microStep_cases`. -/

namespace Sys2Proof.Machine

/-- The sub-state that decodes a symbol of a context (`43_decode_driver.md` R215, R216, R218, R219). -/
def Ctx.dstate : Ctx → DState
  | .ctrl => .ctrl
  | .lit => .lit
  | .len => .len
  | .slot => .slot

/-- The state after an adaptive decode that gave `d`: the coder narrowed, the model updated
(`40_range_decoder.md` R136). -/
abbrev afterSymbol (c : Ctx) (d : Decoded) (s : State) : State := modelUpdate c d.sym (s.setCoder d.range d.code)

/-- The state with `MDIST` and `XBITS` after the slot or one more extra bit (`43_decode_driver.md` R219, R220). -/
abbrev withDistance (d : Word) (x : BitVec 5) (t : State) : State := { t with mdist := d, xbits := x }

/-- `sd` is the sub-state of `s`, and `s` needs no renormalisation before its micro-step. -/
abbrev State.decodesAt (s : State) (sd : DState) : Prop := s.dstate = sd ∧ s.needsNorm = false

/-- The context `c` decodes `d` next in `s`. -/
abbrev State.symbolNext (s : State) (c : Ctx) (d : Decoded) : Prop :=
  s.decodesAt c.dstate ∧ decodeFreq (s.freq.get c) s.range s.code = some d

/-- The outcomes of a micro-step in `s`, by the sub-state and the conditions that lead to each. -/
inductive MicroStepCase (s : State) : Micro → Prop
  /-- A byte is due, none is there and none will come. -/
  | truncated (hd : s.dstate = .rcInit ∨ s.dstate.decodes ∧ s.needsNorm = true) (ha : s.inAvail = false)
      (hf : s.final = true) : MicroStepCase s (raiseFail .truncated s)
  /-- A byte is due and none is there yet. -/
  | needsInput (hd : s.dstate = .rcInit ∨ s.dstate.decodes ∧ s.needsNorm = true) (ha : s.inAvail = false)
      (hf : s.final = false) : MicroStepCase s (suspendInput s)
  /-- The stream's first byte is not 0. -/
  | badFirstByte (hd : s.dstate = .rcInit) (ha : s.inAvail = true) (h0 : s.initCnt = 0) (hb : s.nextByte ≠ 0) :
      MicroStepCase s (raiseFail .corruptFormat s.takeByte)
  /-- An initial byte with more to come. -/
  | loaded (hd : s.dstate = .rcInit) (ha : s.inAvail = true) (cd : Word)
      (hl : rcLoad s = .cont { s.takeByte with code := cd, initCnt := s.initCnt + 1 })
      (hn : (s.initCnt + 1).toNat ≠ Config.rcInitBytes) :
      MicroStepCase s (.cont { s.takeByte with code := cd, initCnt := s.initCnt + 1 })
  /-- The last initial byte. -/
  | loadedLast (hd : s.dstate = .rcInit) (ha : s.inAvail = true) (cd : Word)
      (hl : rcLoad s = .cont { s.takeByte with code := cd, initCnt := s.initCnt + 1 })
      (hn : (s.initCnt + 1).toNat = Config.rcInitBytes) :
      MicroStepCase s (.cont (State.goto .ctrl { s.takeByte with code := cd, initCnt := s.initCnt + 1 }))
  /-- A renormalisation. -/
  | renormalised (hd : s.dstate.decodes) (hn : s.needsNorm = true) (ha : s.inAvail = true) :
      MicroStepCase s (.cont (rcNorm s))
  /-- An adaptive decode fails. -/
  | noSymbol (c : Ctx) (hd : s.decodesAt c.dstate) (hf : decodeFreq (s.freq.get c) s.range s.code = none) :
      MicroStepCase s (raiseFail .corruptSymbol s)
  /-- A direct bit fails to decode. -/
  | noBit (hd : s.decodesAt .extra ∨ s.decodesAt .csum) (hf : decodeDirect s = none) :
      MicroStepCase s (raiseFail .corruptSymbol s)
  /-- The control symbol of a literal; then those of a match and of the end. -/
  | ctrlLit (d : Decoded) (hd : s.symbolNext .ctrl d) (hs : d.sym = 0) :
      MicroStepCase s (.cont ((afterSymbol .ctrl d s).goto .lit))
  | ctrlMatch (d : Decoded) (hd : s.symbolNext .ctrl d) (hs : d.sym = 1) :
      MicroStepCase s (.cont ((afterSymbol .ctrl d s).goto .len))
  | ctrlEos (d : Decoded) (hd : s.symbolNext .ctrl d) (hs : 2 ≤ d.sym) :
      MicroStepCase s (.cont { afterSymbol .ctrl d s with csumCnt := 32, csumStored := 0, dstate := .csum })
  | literal (d : Decoded) (hd : s.symbolNext .lit d) :
      MicroStepCase s (.cont { afterSymbol .lit d s with pendByte := literalOf d.sym, dstate := .emit })
  | length (d : Decoded) (hd : s.symbolNext .len d) :
      MicroStepCase s (.cont { afterSymbol .len d s with mlen := lengthOf d.sym, dstate := .slot })
  /-- Slot 0 at a distance the window holds. -/
  | slotNear (d : Decoded) (hd : s.symbolNext .slot d) (hs : d.sym = 0)
      (hk : distOk 1 s = true) :
      MicroStepCase s (.cont ((withDistance 1 0 (afterSymbol .slot d s)).goto .copy))
  /-- Slot 0 before any byte was produced. -/
  | slotBad (d : Decoded) (hd : s.symbolNext .slot d) (hs : d.sym = 0)
      (hk : distOk 1 s = false) :
      MicroStepCase s (raiseFail .corruptDistance (withDistance 1 0 (afterSymbol .slot d s)))
  | slotExtra (d : Decoded) (hd : s.symbolNext .slot d) (hs : d.sym ≠ 0) :
      MicroStepCase s (.cont ((withDistance 1 (BitVec.ofNat 5 d.sym) (afterSymbol .slot d s)).goto .extra))
  /-- An extra bit with more to come. -/
  | extraBit (hd : s.decodesAt .extra) (bit : Nat) (rg cd : Word)
      (hb : decodeDirect s = some (bit, s.setCoder rg cd)) (hx : s.xbits - 1 ≠ 0) :
      MicroStepCase s (.cont (withDistance (distanceWithBit s.mdist bit) (s.xbits - 1) (s.setCoder rg cd)))
  /-- The last extra bit, of a distance the window holds. -/
  | extraDone (hd : s.decodesAt .extra) (bit : Nat) (rg cd : Word)
      (hb : decodeDirect s = some (bit, s.setCoder rg cd)) (hx : s.xbits - 1 = 0)
      (hk : distOk (distanceWithBit s.mdist bit) s = true) :
      MicroStepCase s
        (.cont ((withDistance (distanceWithBit s.mdist bit) (s.xbits - 1) (s.setCoder rg cd)).goto .copy))
  /-- The last extra bit, of a distance the window does not hold. -/
  | extraBad (hd : s.decodesAt .extra) (bit : Nat) (rg cd : Word)
      (hb : decodeDirect s = some (bit, s.setCoder rg cd)) (hx : s.xbits - 1 = 0)
      (hk : distOk (distanceWithBit s.mdist bit) s = false) :
      MicroStepCase s (raiseFail .corruptDistance
        (withDistance (distanceWithBit s.mdist bit) (s.xbits - 1) (s.setCoder rg cd)))
  /-- A byte is due and `OUT` is full. -/
  | needsOutput (hd : s.dstate = .emit ∨ s.dstate = .copy) (ho : s.outAvail = false) :
      MicroStepCase s (suspendOutput s)
  | overflow (hd : s.dstate = .emit ∨ s.dstate = .copy) (ho : s.outAvail = true)
      (ht : ¬ s.totalOut.toNat + 1 < 2 ^ 64) : MicroStepCase s (.fault .totalOutOverflow)
  | emitted (hd : s.dstate = .emit) (ho : s.outAvail = true) (ht : s.totalOut.toNat + 1 < 2 ^ 64) :
      MicroStepCase s (.cont ((produced s.pendByte s).goto .ctrl))
  /-- A match byte with more to come. -/
  | copied (hd : s.dstate = .copy) (ho : s.outAvail = true) (ht : s.totalOut.toNat + 1 < 2 ^ 64)
      (hm : s.mlen - 1 ≠ 0) :
      MicroStepCase s (.cont { produced (s.winRead s.copyPos) s with mlen := s.mlen - 1 })
  /-- The last match byte. -/
  | copiedLast (hd : s.dstate = .copy) (ho : s.outAvail = true) (ht : s.totalOut.toNat + 1 < 2 ^ 64)
      (hm : s.mlen - 1 = 0) :
      MicroStepCase s (.cont (State.goto .ctrl { produced (s.winRead s.copyPos) s with mlen := s.mlen - 1 }))
  /-- A stored-checksum bit with more to come. -/
  | csumBit (hd : s.decodesAt .csum) (bit : Nat) (rg cd : Word)
      (hb : decodeDirect s = some (bit, s.setCoder rg cd)) (hx : s.csumCnt - 1 ≠ 0) :
      MicroStepCase s (.cont (withStoredBit bit s (s.setCoder rg cd)))
  /-- The last stored-checksum bit, and the comparison fails. -/
  | csumBad (hd : s.decodesAt .csum) (bit : Nat) (rg cd : Word)
      (hb : decodeDirect s = some (bit, s.setCoder rg cd)) (hx : s.csumCnt - 1 = 0) (he : s.cfgCsumEn = 1)
      (hk : storedWithBit s.csumStored bit ≠ s.csumComputed) :
      MicroStepCase s (raiseFail .checksum (withStoredBit bit s (s.setCoder rg cd)))
  /-- The last stored-checksum bit, and the comparison passes or is not made. -/
  | csumDone (hd : s.decodesAt .csum) (bit : Nat) (rg cd : Word)
      (hb : decodeDirect s = some (bit, s.setCoder rg cd)) (hx : s.csumCnt - 1 = 0)
      (hk : s.cfgCsumEn = 1 → storedWithBit s.csumStored bit = s.csumComputed) :
      MicroStepCase s (.cont ((withStoredBit bit s (s.setCoder rg cd)).goto .tail))
  | tailDone (hd : s.decodesAt .tail) (hc : s.code = 0) : MicroStepCase s (finish (s.goto .done))
  | tailBad (hd : s.decodesAt .tail) (hc : s.code ≠ 0) : MicroStepCase s (raiseFail .corruptFormat s)
  | ended (hd : s.dstate = .done) : MicroStepCase s (.fault .noMicroStep)

/-! ### The micro-steps, one by one -/

/-- NeedIn's two outcomes, where a byte is due and there is none. -/
theorem microStepCase_needIn {s : State} (hd : s.dstate = .rcInit ∨ s.dstate.decodes ∧ s.needsNorm = true)
    (ha : s.inAvail = false) : MicroStepCase s (needIn s) := by
  rcases needIn_cases s with ⟨hf, hn⟩ | ⟨hf, hn⟩ <;> rw [hn]
  · exact .truncated hd ha hf
  · exact .needsInput hd ha hf

theorem rcLoad_of_cont {s t : State} (h : rcLoad s = .cont t) :
    ∃ cd, t = { s.takeByte with code := cd, initCnt := s.initCnt + 1 } := by
  rcases rcLoad_cases s with ⟨_, _, hr⟩ | ⟨_, _, hr⟩ | ⟨_, hr⟩ <;> rw [hr] at h <;> cases h
  · exact ⟨s.code, rfl⟩
  · exact ⟨_, rfl⟩

theorem rcLoad_of_fail {s : State} (h : rcLoad s = raiseFail .corruptFormat s.takeByte) :
    s.initCnt = 0 ∧ s.nextByte ≠ 0 := by
  rcases rcLoad_cases s with ⟨_, _, hr⟩ | ⟨h0, hb, _⟩ | ⟨_, hr⟩
  · rw [hr] at h; cases h
  · exact ⟨h0, hb⟩
  · rw [hr] at h; cases h

theorem msRcInit_case {s : State} (hd : s.dstate = .rcInit) : MicroStepCase s (msRcInit s) := by
  rcases msRcInit_cases s with ⟨ha, hm⟩ | ⟨ha, hl, hm⟩ | ⟨t, ha, hl, hm⟩ <;> rw [hm]
  · exact microStepCase_needIn (.inl hd) ha
  · obtain ⟨h0, hb⟩ := rcLoad_of_fail hl
    exact .badFirstByte hd ha h0 hb
  · obtain ⟨cd, rfl⟩ := rcLoad_of_cont hl
    split
    · exact .loadedLast hd ha cd hl ‹_›
    · exact .loaded hd ha cd hl ‹_›

theorem msNorm_case {s : State} (hd : s.dstate.decodes) (hn : s.needsNorm = true) : MicroStepCase s (msNorm s) := by
  rcases msNorm_cases s with ⟨ha, hm⟩ | ⟨ha, hm⟩ <;> rw [hm]
  · exact .renormalised hd hn ha
  · exact microStepCase_needIn (.inr ⟨hd, hn⟩) ha

/-- An adaptive decode fails exactly when its symbol search does. -/
theorem decodeModel_eq_none {c : Ctx} {s : State} :
    decodeModel c s = none ↔ decodeFreq (s.freq.get c) s.range s.code = none := by
  simp only [decodeModel]
  split <;> simp_all

theorem msCtrl_case {s : State} (hd : s.decodesAt .ctrl) : MicroStepCase s (msCtrl s) := by
  rcases msCtrl_cases s with ⟨hf, hm⟩ | ⟨sym, t, hf, hm⟩
  · rw [hm]; exact .noSymbol .ctrl hd (decodeModel_eq_none.mp hf)
  · obtain ⟨d, hq, rfl, rfl⟩ := decodeModel_cases hf
    rcases hm with ⟨hs, hm⟩ | ⟨hs, hm⟩ | ⟨hs, hm⟩ <;> rw [hm]
    · exact .ctrlLit d ⟨hd, hq⟩ hs
    · exact .ctrlMatch d ⟨hd, hq⟩ hs
    · exact .ctrlEos d ⟨hd, hq⟩ hs

theorem msLit_case {s : State} (hd : s.decodesAt .lit) : MicroStepCase s (msLit s) := by
  rcases msLit_cases s with ⟨hf, hm⟩ | ⟨sym, t, hf, hm⟩ <;> rw [hm]
  · exact .noSymbol .lit hd (decodeModel_eq_none.mp hf)
  · obtain ⟨d, hq, rfl, rfl⟩ := decodeModel_cases hf
    exact .literal d ⟨hd, hq⟩

theorem msLen_case {s : State} (hd : s.decodesAt .len) : MicroStepCase s (msLen s) := by
  rcases msLen_cases s with ⟨hf, hm⟩ | ⟨sym, t, hf, hm⟩ <;> rw [hm]
  · exact .noSymbol .len hd (decodeModel_eq_none.mp hf)
  · obtain ⟨d, hq, rfl, rfl⟩ := decodeModel_cases hf
    exact .length d ⟨hd, hq⟩

theorem msSlot_case {s : State} (hd : s.decodesAt .slot) : MicroStepCase s (msSlot s) := by
  rcases msSlot_cases s with ⟨hf, hm⟩ | ⟨sym, t, hf, hm⟩
  · rw [hm]; exact .noSymbol .slot hd (decodeModel_eq_none.mp hf)
  · obtain ⟨d, hq, rfl, rfl⟩ := decodeModel_cases hf
    rcases hm with ⟨hs, hm⟩ | ⟨hs, hm⟩ <;> rw [hm]
    · rcases distanceDone_cases (withDistance 1 0 (afterSymbol .slot d s)) with ⟨hk, hm⟩ | ⟨hk, hm⟩ <;> rw [hm]
      · exact .slotNear d ⟨hd, hq⟩ hs hk
      · exact .slotBad d ⟨hd, hq⟩ hs hk
    · exact .slotExtra d ⟨hd, hq⟩ hs

theorem msExtra_case {s : State} (hd : s.decodesAt .extra) : MicroStepCase s (msExtra s) := by
  rcases msExtra_cases s with ⟨hf, hm⟩ | ⟨bit, t, hb, hm⟩
  · rw [hm]; exact .noBit (.inl hd) hf
  · obtain ⟨-, -, rfl⟩ := decodeDirect_cases hb
    rcases hm with ⟨hx, hm⟩ | ⟨hx, hm⟩ <;> rw [hm]
    · rcases distanceDone_cases (withDistance (distanceWithBit s.mdist bit) (s.xbits - 1) (s.setCoder _ _))
        with ⟨hk, hm⟩ | ⟨hk, hm⟩ <;> rw [hm]
      · exact .extraDone hd bit _ _ hb hx hk
      · exact .extraBad hd bit _ _ hb hx hk
    · exact .extraBit hd bit _ _ hb hx

theorem msEmit_case {s : State} (hd : s.dstate = .emit) : MicroStepCase s (msEmit s) := by
  rcases msEmit_cases s with ⟨ho, hm⟩ | ⟨ho, ht, hm⟩ | ⟨ho, ht, hm⟩ <;> rw [hm]
  · exact .needsOutput (.inl hd) ho
  · exact .overflow (.inl hd) ho ht
  · exact .emitted hd ho ht

theorem msCopy_case {s : State} (hd : s.dstate = .copy) : MicroStepCase s (msCopy s) := by
  rcases msCopy_cases s with ⟨ho, hm⟩ | ⟨ho, ht, hm⟩ | ⟨ho, ht, ⟨hl, hm⟩ | ⟨hl, hm⟩⟩ <;> rw [hm]
  · exact .needsOutput (.inr hd) ho
  · exact .overflow (.inr hd) ho ht
  · exact .copiedLast hd ho ht hl
  · exact .copied hd ho ht hl

theorem msCsum_case {s : State} (hd : s.decodesAt .csum) : MicroStepCase s (msCsum s) := by
  rcases msCsum_cases s with ⟨hf, hm⟩ | ⟨bit, t, hb, hm⟩
  · rw [hm]; exact .noBit (.inr hd) hf
  · obtain ⟨-, -, rfl⟩ := decodeDirect_cases hb
    rcases hm with ⟨hx, hm⟩ | ⟨hx, he, hk, hm⟩ | ⟨hx, hk, hm⟩ <;> rw [hm]
    · exact .csumBit hd bit _ _ hb hx
    · exact .csumBad hd bit _ _ hb hx he hk
    · exact .csumDone hd bit _ _ hb hx (fun he => by_contra fun hne => hk ⟨he, hne⟩)

theorem msTail_case {s : State} (hd : s.decodesAt .tail) : MicroStepCase s (msTail s) := by
  rcases msTail_cases s with ⟨hc, hm⟩ | ⟨hc, hm⟩ <;> rw [hm]
  · exact .tailDone hd hc
  · exact .tailBad hd hc

/-- What a decoding sub-state does, given what it does once no renormalisation is due. -/
theorem microStepCase_of_decodes {s : State} (hd : s.dstate.decodes)
    (hc : s.needsNorm = false → MicroStepCase s (microStep s)) : MicroStepCase s (microStep s) := by
  cases hn : s.needsNorm with
  | false => exact hc hn
  | true => rw [microStep_norm hd hn]; exact msNorm_case hd hn

/-- Every micro-step is one of the cases. -/
theorem microStep_cases {s : State} {m : Micro} (h : microStep s = m) : MicroStepCase s m := by
  subst h
  cases hd : s.dstate with
  | rcInit => rw [microStep_rcInit hd]; exact msRcInit_case hd
  | emit => rw [microStep_emit hd]; exact msEmit_case hd
  | copy => rw [microStep_copy hd]; exact msCopy_case hd
  | done => rw [microStep_done hd]; exact .ended hd
  | ctrl => exact microStepCase_of_decodes (by simp [DState.decodes, hd]) fun hn =>
    microStep_ctrl hd hn ▸ msCtrl_case ⟨hd, hn⟩
  | lit => exact microStepCase_of_decodes (by simp [DState.decodes, hd]) fun hn =>
    microStep_lit hd hn ▸ msLit_case ⟨hd, hn⟩
  | len => exact microStepCase_of_decodes (by simp [DState.decodes, hd]) fun hn =>
    microStep_len hd hn ▸ msLen_case ⟨hd, hn⟩
  | slot => exact microStepCase_of_decodes (by simp [DState.decodes, hd]) fun hn =>
    microStep_slot hd hn ▸ msSlot_case ⟨hd, hn⟩
  | extra => exact microStepCase_of_decodes (by simp [DState.decodes, hd]) fun hn =>
    microStep_extra hd hn ▸ msExtra_case ⟨hd, hn⟩
  | csum => exact microStepCase_of_decodes (by simp [DState.decodes, hd]) fun hn =>
    microStep_csum hd hn ▸ msCsum_case ⟨hd, hn⟩
  | tail => exact microStepCase_of_decodes (by simp [DState.decodes, hd]) fun hn =>
    microStep_tail hd hn ▸ msTail_case ⟨hd, hn⟩

end Sys2Proof.Machine
end

section
/-! SUPPORT. Runs of micro-steps: `RunOutcome s m` says that `m` is how a run of the driver from `s` ends, whichever of
its loops makes the run. What every micro-step keeps, every run keeps (`RunOutcome.keeps`). -/

namespace Sys2Proof.Machine

/-- Every state the outcome leaves has the property. -/
def Micro.Leaves (P : State → Prop) : Micro → Prop
  | .cont t => P t
  | .stop _ t => P t
  | .fault _ => True

theorem Micro.Leaves.imp {P Q : State → Prop} (hPQ : ∀ t, P t → Q t) {m : Micro} (h : m.Leaves P) :
    m.Leaves Q := by
  cases m with
  | cont t => exact hPQ t h
  | stop c t => exact hPQ t h
  | fault f => trivial

/-- The outcomes of a run of micro-steps from `s`: it stands after some that continued, or the one after them ended it,
or its bound cut it off. -/
inductive RunOutcome (s : State) : Micro → Prop
  | reached {k : Nat} {u : State} (h : microAfter k s = some u) : RunOutcome s (.cont u)
  | ended {k : Nat} {u : State} {m : Micro} (h : microAfter k s = some u) (hm : microStep u = m) : RunOutcome s m
  | outrun : RunOutcome s (.fault .stepBoundExceeded)

theorem microAfter_join {j k : Nat} {s t u : State} (hs : microAfter j s = some t) (ht : microAfter k t = some u) :
    microAfter (j + k) s = some u := by
  rw [microAfter_add, hs]
  exact ht

/-- A run from a state that micro-steps from `s` have reached is one from `s`. -/
theorem RunOutcome.after {k : Nat} {s t : State} {m : Micro} (hs : microAfter k s = some t) (h : RunOutcome t m) :
    RunOutcome s m := by
  cases h with
  | reached h => exact .reached (microAfter_join hs h)
  | ended h hm => exact .ended (microAfter_join hs h) hm
  | outrun => exact .outrun

theorem RunOutcome.single {s : State} {m : Micro} (h : microStep s = m) : RunOutcome s m :=
  .ended (microAfter_zero s) h

theorem RunOutcome.cons {s t : State} {m : Micro} (hs : microStep s = .cont t) (h : RunOutcome t m) :
    RunOutcome s m := h.after (microAfter_cont 0 hs)

/-- A run that stands in a state has reached it. -/
theorem RunOutcome.reaches {s t : State} (h : RunOutcome s (.cont t)) : ∃ k, microAfter k s = some t := by
  cases h with
  | reached h => exact ⟨_, h⟩
  | ended h hm => exact ⟨_, microAfter_join h (microAfter_cont 0 hm)⟩

/-- What every micro-step keeps, micro-steps that continue keep. -/
theorem microAfter_keeps {P : State → Prop} (hP : ∀ u, P u → (microStep u).Leaves P) {k : Nat} {s t : State}
    (hs : P s) (h : microAfter k s = some t) : P t := by
  induction k generalizing s with
  | zero => cases h; exact hs
  | succ k ih =>
    obtain ⟨u, hu, h⟩ := microAfter_succ_cases h
    have hl := hP s hs
    rw [hu] at hl
    exact ih hl h

/-- What every micro-step keeps, every run keeps. -/
theorem RunOutcome.keeps {P : State → Prop} (hP : ∀ u, P u → (microStep u).Leaves P) {s : State} {m : Micro}
    (hs : P s) (h : RunOutcome s m) : m.Leaves P := by
  cases h with
  | reached h => exact microAfter_keeps hP hs h
  | ended h hm => exact hm ▸ hP _ (microAfter_keeps hP hs h)
  | outrun => trivial

/-! ### The driver's loops make runs -/

theorem runLoop_outcome (n : Nat) (s : State) : RunOutcome s (runLoop n s) := by
  induction n generalizing s with
  | zero => exact .outrun
  | succ n ih =>
    cases hm : microStep s with
    | cont t => rw [runLoop_cont hm]; exact (ih t).cons hm
    | stop c t => rw [runLoop_stop hm]; exact .single hm
    | fault f => rw [runLoop_fault hm]; exact .single hm

theorem finishItem_outcome (n : Nat) (s : State) : RunOutcome s (finishItem n s) := by
  induction n generalizing s with
  | zero => exact .outrun
  | succ n ih =>
    simp only [finishItem]
    split
    · rename_i t ht
      split
      · exact .single ht
      · exact (ih t).cons ht
    · exact .single rfl

theorem readFields_outcome {n : Nat} {s : State} {m : Micro} (h : readFields n s = some m) : RunOutcome s m := by
  induction n generalizing s with
  | zero => cases h
  | succ n ih =>
    simp only [readFields] at h
    split at h
    · rename_i t ht
      split at h
      · cases h; exact .single ht
      · exact (ih h).cons ht
    · cases h; exact .single ‹_›
    · cases h; exact .single ‹_›
    · cases h

theorem readItem_outcome {s : State} {i : Instr} {m : Micro} (h : readItem s = some (i, m)) : RunOutcome s m := by
  rcases readItem_cases h with ⟨t, rfl, -, hf⟩ | ⟨c, t, rfl, -, hf⟩ <;> exact readFields_outcome hf

/-- An item that executes closes a run of the driver. -/
theorem runItem_next {i : Instr} {s t : State} (h : runItem i s = .next t) :
    ∃ m, RunOutcome s m ∧ closeMicro m = .next t := by
  by_cases hr : ∃ m, readItem s = some (i, m)
  · obtain ⟨m, hm⟩ := hr
    have hrun := readItem_outcome hm
    rw [runItem_of_read hm] at h
    cases m with
    | cont u =>
      obtain ⟨k, hu⟩ := hrun.reaches
      exact ⟨_, (finishItem_outcome _ u).after hu, h⟩
    | stop c u => exact ⟨_, hrun, h⟩
    | fault f => exact ⟨_, hrun, h⟩
  · rw [runItem_of_not_read fun m hm => hr ⟨m, hm⟩] at h
    cases h

/-- What a closed micro-step leaves: the state it continues in, or the one it stopped in with its STEP ended. -/
theorem closeMicro_next {m : Micro} {t : State} (h : closeMicro m = .next t) :
    m = .cont t ∨ ∃ c u, m = .stop c u ∧ t = endStep c u := by
  cases m <;> cases h
  · exact .inl rfl
  · exact .inr ⟨_, _, rfl, rfl⟩

/-- A STEP ends by answering at once, nothing else written, or by closing a run of the driver. -/
theorem execStep_next {f : Bool} {inp : List Byte} {oc : Nat} {s t : State} (h : exec (.step f inp oc) s = .next t) :
    (∃ r, t = s.respond r)
    ∨ ∃ m, RunOutcome (startStep f inp oc s) m ∧ closeMicro m = .next t := by
  simp only [exec, execStep] at h
  split at h
  · cases h; exact .inl ⟨_, rfl⟩
  · cases h; exact .inl ⟨_, rfl⟩
  · cases h; exact .inl ⟨_, rfl⟩
  · exact .inr ⟨_, runLoop_outcome _ _, h⟩

/-- A STEP that runs the loop leaves a state in which a micro-step stopped, the STEP ended. -/
theorem execStep_running_next {f : Bool} {inp : List Byte} {oc : Nat} {s t : State} (hp : s.phase.resumable)
    (h : exec (.step f inp oc) s = .next t) :
    ∃ k u c v, microAfter k (startStep f inp oc s) = some u ∧ microStep u = .stop c v ∧ t = endStep c v := by
  rw [execStep_running hp] at h
  have hrun := runLoop_outcome (loopBound inp oc) (startStep f inp oc s)
  rcases closeMicro_next h with hm | ⟨c, v, hm, rfl⟩
  · exact absurd hm (runLoop_ne_cont _ _ _)
  · rw [show runLoop _ _ = _ from hm] at hrun
    cases hrun with
    | ended hu hs => exact ⟨_, _, c, v, hu, hs, rfl⟩

end Sys2Proof.Machine
end

section
/-! CLAIM. O32: only INIT, REINIT, DEINIT and ONESHOT write the configuration (`10_state.md` R23-R26). -/

namespace Sys2Proof.Machine

/-- The configuration of `t` is that of `s`. -/
def State.sameConfig (s t : State) : Prop :=
  t.cfgDictLog2 = s.cfgDictLog2 ∧ t.cfgRate = s.cfgRate ∧ t.cfgCsumEn = s.cfgCsumEn

theorem State.sameConfig.refl (s : State) : s.sameConfig s := ⟨rfl, rfl, rfl⟩

theorem State.sameConfig.trans {s t u : State} (h : s.sameConfig t) (h' : t.sameConfig u) : s.sameConfig u := by
  obtain ⟨hdict, hrate, hcsum⟩ := h
  obtain ⟨hdict', hrate', hcsum'⟩ := h'
  exact ⟨hdict'.trans hdict, hrate'.trans hrate, hcsum'.trans hcsum⟩

/-- No micro-step writes the configuration: none of its cases does. -/
theorem microStep_sameConfig (s : State) : (microStep s).Leaves s.sameConfig := by
  generalize hm : microStep s = m
  cases microStep_cases hm with
  | overflow | ended => trivial
  | _ => exact ⟨rfl, rfl, rfl⟩

theorem RunOutcome.sameConfig {s : State} {m : Micro} (h : RunOutcome s m) : m.Leaves s.sameConfig :=
  h.keeps (fun u hu => (microStep_sameConfig u).imp fun _ => hu.trans) (.refl s)

/-- Closing a run writes no configuration either. -/
theorem sameConfig_of_closeMicro {s t : State} {m : Micro} (hm : m.Leaves s.sameConfig)
    (h : closeMicro m = .next t) : s.sameConfig t := by
  rcases closeMicro_next h with rfl | ⟨c, u, rfl, rfl⟩ <;> exact hm

theorem runItem_sameConfig {i : Instr} {s t : State} (h : runItem i s = .next t) : s.sameConfig t := by
  obtain ⟨m, hrun, hm⟩ := runItem_next h
  exact sameConfig_of_closeMicro hrun.sameConfig hm

theorem execStep_sameConfig {f : Bool} {inp : List Byte} {oc : Nat} {s t : State}
    (h : exec (.step f inp oc) s = .next t) : s.sameConfig t := by
  rcases execStep_next h with ⟨r, rfl⟩ | ⟨m, hrun, hm⟩
  · exact .refl s
  · exact sameConfig_of_closeMicro hrun.sameConfig hm

/-- QUERY only answers. -/
theorem execQuery_next {q : BitVec 4} {s t : State} (h : exec (.query q) s = .next t) : ∃ r, t = s.respond r := by
  simp only [exec, execQuery] at h
  split at h
  · cases h; exact ⟨_, rfl⟩
  · split at h <;> cases h <;> exact ⟨_, rfl⟩

/-- Settles O32: the commands that only answer write nothing but their result, and a STEP or an item is a run of
micro-steps, none of which writes the configuration. -/
theorem configurationFrame : Obligations.ConfigurationFrame := by
  intro s t i h hdeinit hinit hreinit honeshot
  show s.sameConfig t
  cases i with
  | version => cases h; exact .refl s
  | init p => exact absurd rfl (hinit p)
  | reinit p => exact absurd rfl (hreinit p)
  | deinit => exact absurd rfl hdeinit
  | step f inp oc => exact execStep_sameConfig h
  | query q => obtain ⟨r, rfl⟩ := execQuery_next h; exact .refl s
  | reservedOp67 w => cases h; exact .refl s
  | reservedOp8F w => cases h; exact .refl s
  | lit b => exact runItem_sameConfig h
  | matchItem l d => exact runItem_sameConfig h
  | eos x => exact runItem_sameConfig h
  | oneshot p src cap want => exact absurd rfl (honeshot p src cap want)

end Sys2Proof.Machine
end

section
/-! CLAIM. O28: SUCCESS with checking enabled means the checksum was verified (`10_state.md` R27,
`43_decode_driver.md` R222). -/

namespace Sys2Proof.Machine

/-- Past the last bit, the stored checksum has passed its comparison wherever it is compared: the clause of
`State.storedOk` about TAIL and DONE. -/
def State.verified (s : State) : Prop :=
  s.dstate = .tail ∨ s.dstate = .done → s.csumCnt = 0 ∧ (s.cfgCsumEn = 1 → s.csumStored = s.csumComputed)

theorem State.Inv.verified {s : State} (h : s.Inv) (hp : s.phase ≠ .uninit) : s.verified := by
  obtain ⟨-, -, hsession⟩ := h
  obtain ⟨-, -, -, -, ⟨-, hstored, -⟩, -⟩ := hsession hp
  exact hstored

/-- A state in no sub-state past the last bit is verified. -/
theorem verified_of_dstate {s : State} (ht : s.dstate ≠ .tail) (hd : s.dstate ≠ .done) : s.verified :=
  fun h => (h.elim ht hd).elim

/-- Every micro-step keeps it: the last stored bit leads to TAIL only past the comparison, TAIL and DONE are left only
for DONE, and no micro-step there writes what was compared. -/
theorem microStep_verified (s : State) (hs : s.verified) : (microStep s).Leaves State.verified := by
  generalize hm : microStep s = m
  cases microStep_cases hm with
  | csumDone hd bit rg cd hb hx hk => exact fun _ => ⟨hx, hk⟩
  | tailDone hd hc => exact fun _ => hs (.inl hd.1)
  | overflow | ended => trivial
  | csumBit hd | csumBad hd => exact verified_of_dstate (by simp [hd.1]) (by simp [hd.1])
  | copied hd => exact verified_of_dstate (by simp [hd]) (by simp [hd])
  | truncated | needsInput | needsOutput | badFirstByte | loaded | renormalised | noSymbol | noBit | slotBad
  | extraBit | extraBad | tailBad => exact hs
  | _ => exact verified_of_dstate (by simp) (by simp)

/-- A micro-step stops in SUCCESS only in DONE (`43_decode_driver.md` R224). -/
theorem microStep_success {s t : State} {c : Status} (h : microStep s = .stop c t) (hp : t.phase = .success) :
    t.dstate = .done := by
  cases microStep_cases h with
  | tailDone => rfl
  | _ => cases hp

/-- `CSUM` as a number: `ADLER_B` above `ADLER_A` (`10_state.md` R42). -/
theorem csumComputed_toNat (s : State) : s.csumComputed.toNat = s.adlerB.toNat * 2 ^ 16 + s.adlerA.toNat := by
  have hb : s.adlerB.toNat <<< 16 < 2 ^ 32 := by rw [Nat.shiftLeft_eq]; omega
  have h16 : (16 : Nat) ≤ 32 := by decide
  rw [State.csumComputed, BitVec.toNat_or, BitVec.toNat_shiftLeft, BitVec.toNat_setWidth_of_le h16,
    BitVec.toNat_setWidth_of_le h16, Nat.mod_eq_of_lt hb, ← Nat.shiftLeft_add_eq_or_of_lt s.adlerA.isLt,
    Nat.shiftLeft_eq]

/-- Settles O28: what was compared stays verified through every micro-step of the STEP, and SUCCESS is left in DONE. -/
theorem successMeansVerified : Obligations.SuccessMeansVerified := by
  intro s t f inp oc hinv hp h hsuccess hen
  have hstart : (startStep f inp oc s).verified :=
    hinv.verified (by rcases hp with hp | hp | hp <;> simp [hp])
  obtain ⟨k, u, c, v, hu, hstop, rfl⟩ := execStep_running_next hp h
  have hv := microStep_verified u (microAfter_keeps microStep_verified hstart hu)
  rw [hstop] at hv
  obtain ⟨hcnt, hstored⟩ := hv (.inr (microStep_success hstop hsuccess))
  obtain ⟨-, -, hcsum⟩ := execStep_sameConfig h
  refine ⟨?_, hcnt⟩
  show v.csumStored.toNat = v.adlerB.toNat * 2 ^ 16 + v.adlerA.toNat
  rw [hstored (hcsum.trans hen), csumComputed_toNat]

end Sys2Proof.Machine
end

section
/-! SUPPORT. The rules of the encodings: the fields of a command word as numbers, the decoder's answer to legal and to
illegal words (`30_encoding.md` R91-R93), and direct bits, which assemble to the number they were taken from
(`30_encoding.md` R103, R104, R108). -/

namespace Sys2Proof

open Sys2Proof.Machine

/-! ### Command words -/

theorem opField_toNat (w : Word) : (opField w).toNat = w.toNat % 16 := by
  simp [opField, BitVec.extractLsb'_toNat]

theorem qidxField_toNat (w : Word) : (qidxField w).toNat = w.toNat / 256 % 16 := by
  simp [qidxField, BitVec.extractLsb'_toNat, Nat.shiftRight_eq_div_pow]

theorem qidxField_eq_zero_iff (w : Word) : qidxField w = 0 ↔ w.toNat / 256 % 16 = 0 := by
  simp [BitVec.toNat_eq, qidxField_toNat]

theorem extractLsb'_eq_zero_iff (w : Word) (a n : Nat) :
    w.extractLsb' a n = 0 ↔ ∀ j < n, w.getLsbD (a + j) = false := by
  simp +contextual [BitVec.eq_of_getLsbD_eq_iff]

/-- The reserved bits of a command word are bits 7:5 and 31:12. -/
theorem reservedMask_getLsbD :
    ∀ i < 32, (0xFFFFF0E0 : Word).getLsbD i = decide (5 ≤ i ∧ i < 8 ∨ 12 ≤ i) := by decide

theorem reservedClear_iff (w : Word) : reservedClear w = true ↔ w &&& 0xFFFFF0E0 = 0 := by
  have hmask : w &&& 0xFFFFF0E0 = 0 ↔ ∀ i < 32, (5 ≤ i ∧ i < 8 ∨ 12 ≤ i) → w.getLsbD i = false := by
    rw [BitVec.eq_of_getLsbD_eq_iff]
    refine forall₂_congr fun i hi => ?_
    rw [BitVec.getLsbD_and, reservedMask_getLsbD i hi]
    cases w.getLsbD i <;> simp
  rw [hmask]
  simp only [reservedClear, Bool.and_eq_true, beq_iff_eq, extractLsb'_eq_zero_iff]
  constructor
  · rintro ⟨hlow, hhigh⟩ i hi (⟨h5, h8⟩ | h12)
    · simpa [Nat.add_sub_cancel' h5] using hlow (i - 5) (by omega)
    · simpa [Nat.add_sub_cancel' h12] using hhigh (i - 12) (by omega)
  · exact fun h => ⟨fun j hj => h _ (by omega) (by omega), fun j hj => h _ (by omega) (by omega)⟩

/-- The bits of an illegal word, in the terms the decoder tests them. -/
theorem wordIllegal_iff (w : Word) :
    wordIllegal w ↔ 6 ≤ (opField w).toNat ∨ ¬ reservedClear w = true
      ∨ (finalField w = true ∧ (opField w).toNat ≠ 4) ∨ (qidxField w ≠ 0 ∧ (opField w).toNat ≠ 5) := by
  rw [reservedClear_iff, opField_toNat, Ne, Ne, Ne, qidxField_eq_zero_iff]
  rfl

/-- A legal word decodes to the command of its opcode. -/
theorem decodeCommand_legal {c : Command} (h : ¬ wordIllegal c.cmd) : decodeCommand c = .ok (commandOf c) := by
  rw [wordIllegal_iff] at h
  simp only [not_or, not_not, not_and] at h
  obtain ⟨hop, hclear, hfinal, hqidx⟩ := h
  simp only [decodeCommand]
  rw [if_neg (by omega), if_neg hop, if_neg (by simp [hclear]), if_neg (by simpa using hfinal),
    if_neg (by simpa using hqidx)]

/-- An illegal word is a row of the reserved opcodes or is rejected. -/
theorem decodeCommand_illegal {c : Command} (h : wordIllegal c.cmd) :
    decodeCommand c = .ok (.reservedOp8F c.cmd) ∨ decodeCommand c = .ok (.reservedOp67 c.cmd)
      ∨ ∃ e, decodeCommand c = .error e := by
  simp only [decodeCommand]
  split_ifs with h8 h6 hres hfinal hqidx
  · exact .inl rfl
  · exact .inr (.inl rfl)
  · exact .inr (.inr ⟨_, rfl⟩)
  · exact .inr (.inr ⟨_, rfl⟩)
  · exact .inr (.inr ⟨_, rfl⟩)
  · rcases (wordIllegal_iff _).1 h with hop | hclear | ⟨hf, hop⟩ | ⟨hq, hop⟩
    · exact absurd hop h6
    · exact absurd (by simpa using hres) hclear
    · exact absurd (by simpa [hf] using hfinal) hop
    · exact absurd (by simpa [hop] using hqidx) hq

/-! ### Direct bits -/

@[simp] theorem length_bitsOf (k x : Nat) : (bitsOf k x).length = k := by
  induction k with
  | zero => rfl
  | succ k ih => simp [bitsOf, ih]

@[simp] theorem allBits_bitsOf (k x : Nat) : allBits (bitsOf k x) = true := by
  induction k with
  | zero => rfl
  | succ k ih =>
    have hbit : (x >>> k) % 2 ≤ 1 := by omega
    simpa [bitsOf, allBits, hbit] using ih

/-- The low `k` bits of `x` read back below `acc` are `x` modulo `2 ^ k`. -/
theorem assembleBits_bitsOf (acc k x : Nat) : assembleBits acc (bitsOf k x) = acc * 2 ^ k + x % 2 ^ k := by
  induction k generalizing acc with
  | zero => simp [bitsOf, assembleBits, Nat.mod_one]
  | succ k ih =>
    simp only [bitsOf, assembleBits, ih, Nat.shiftRight_eq_div_pow]
    rw [Nat.mod_pow_succ]
    ring

/-- A positive number is its leading 1 with the `log2` bits below it (`30_encoding.md` R103). -/
theorem assembleBits_log2 {d : Nat} (h : 1 ≤ d) : assembleBits 1 (bitsOf d.log2 d) = d := by
  have hlow := Nat.log2_self_le (n := d) (by omega)
  have hhigh := Nat.lt_log2_self (n := d)
  have hone : d / 2 ^ d.log2 = 1 := Nat.div_eq_of_lt_le (by omega) (by rw [pow_succ] at hhigh; omega)
  rw [assembleBits_bitsOf, ← hone, Nat.mul_comm, Nat.div_add_mod]

end Sys2Proof
end

section
/-! CLAIM. O9: decoding inverts encoding (`30_encoding.md` R91, R92, R94, R99-R104, R107, R108). -/

namespace Sys2Proof

open Sys2Proof.Machine

/-- A legal word with its operands decodes to the command of its opcode. -/
theorem decode_wordCode {w p : Word} {inp : List Byte} {oc : Nat} (h : ¬ wordIllegal w) :
    decode (wordCode w p inp oc) = .ok (commandOf ⟨w, p, inp, oc⟩) := decodeCommand_legal h

/-- STEP's command word, `FINAL` in bit 4. -/
def stepWord (f : Bool) : Word := if f then 0x00000014 else 0x00000004

theorem encode_step (f : Bool) (inp : List Byte) (oc : Nat) :
    encode (.step f inp oc) = wordCode (stepWord f) 0 inp oc := rfl

theorem stepWord_spec :
    ∀ f, ¬ wordIllegal (stepWord f) ∧ opField (stepWord f) = 4 ∧ finalField (stepWord f) = f := by decide

theorem decode_encode_step (f : Bool) (inp : List Byte) (oc : Nat) :
    decode (encode (.step f inp oc)) = .ok (.step f inp oc) := by
  obtain ⟨hlegal, hop, hf⟩ := stepWord_spec f
  rw [encode_step, decode_wordCode hlegal]
  simp only [commandOf, hop, hf]
  rfl

/-- QUERY's command word, the index in bits 11:8. -/
def queryWord (q : BitVec 4) : Word := 0x00000005 ||| (q.setWidth 32 <<< 8)

theorem encode_query (q : BitVec 4) : encode (.query q) = wordCode (queryWord q) := rfl

theorem queryWord_spec :
    ∀ q, ¬ wordIllegal (queryWord q) ∧ opField (queryWord q) = 5 ∧ qidxField (queryWord q) = q := by decide

theorem decode_encode_query (q : BitVec 4) : decode (encode (.query q)) = .ok (.query q) := by
  obtain ⟨hlegal, hop, hq⟩ := queryWord_spec q
  rw [encode_query, decode_wordCode hlegal]
  simp only [commandOf, hop, hq]
  rfl

theorem decode_encode_reservedOp67 {w : Word} (h : (Instr.reservedOp67 w).wellFormed = true) :
    decode (encode (.reservedOp67 w)) = .ok (.reservedOp67 w) := by
  have hop : opField w = 6 ∨ opField w = 7 := by simpa [Instr.wellFormed, opField] using h
  show decodeCommand ⟨w, 0, [], 0⟩ = _
  rcases hop with hop | hop <;> simp only [decodeCommand, hop] <;> rfl

theorem decode_encode_reservedOp8F {w : Word} (h : (Instr.reservedOp8F w).wellFormed = true) :
    decode (encode (.reservedOp8F w)) = .ok (.reservedOp8F w) :=
  if_pos (of_decide_eq_true h)

theorem decode_encode_lit (b : Byte) : decode (encode (.lit b)) = .ok (.lit b) := by
  simp [encode, decode, decodeItem, b.isLt]

/-- The slot is the distance's `log2`, at most the largest dictionary class, and the extra bits are those below its
leading 1. -/
theorem decode_encode_matchItem {l d : Nat} (h : (Instr.matchItem l d).wellFormed = true) :
    decode (encode (.matchItem l d)) = .ok (.matchItem l d) := by
  simp only [Instr.wellFormed, Bool.and_eq_true, decide_eq_true_eq] at h
  obtain ⟨⟨⟨hlmin, hlmax⟩, hdmin⟩, hdmax⟩ := h
  have hlen : ¬ Config.nLen ≤ l - Config.minMatch := by omega
  have hslot : ¬ Config.dictLog2Max < d.log2 := by
    have := (Nat.log2_lt (by omega)).2 hdmax
    omega
  simp [encode, decode, decodeItem, hlen, hslot, assembleBits_log2 hdmin, Nat.sub_add_cancel hlmin]

theorem decode_encode_eos (x : Word) : decode (encode (.eos x)) = .ok (.eos x) := by
  simp [encode, decode, decodeItem, assembleBits_bitsOf]

/-- Settles O9, row by row: the words of the defined commands are legal, and an item's bits assemble to its operand. -/
theorem decodeEncodeRoundTrip : Obligations.DecodeEncodeRoundTrip := by
  intro i h
  cases i with
  | version => exact decode_wordCode (by decide)
  | init p => exact decode_wordCode (by decide)
  | reinit p => exact decode_wordCode (by decide)
  | deinit => exact decode_wordCode (by decide)
  | step f inp oc => exact decode_encode_step f inp oc
  | query q => exact decode_encode_query q
  | reservedOp67 w => exact decode_encode_reservedOp67 h
  | reservedOp8F w => exact decode_encode_reservedOp8F h
  | lit b => exact decode_encode_lit b
  | matchItem l d => exact decode_encode_matchItem h
  | eos x => exact decode_encode_eos x
  | oneshot p src cap want => rfl

end Sys2Proof
end

section
/-! CLAIM. O8, O10: illegal command words are refused (`30_encoding.md` R93, `44_host_commands.md` R269), and the words
the spec writes out decode to their instructions. -/

namespace Sys2Proof.Machine

/-- A request that decodes is taken and its instruction executed (`44_host_commands.md` R260). -/
theorem hostStep_ok {s : State} {q : Request} {rest : List Request} {i : Instr} (hq : s.requests = q :: rest)
    (hd : decode (.request q) = .ok i) : hostStep s = exec i { s with requests := rest } := by
  simp [hostStep, State.takeRequest, hq, hd]

/-- A request that does not decode is taken and refused (`44_host_commands.md` R269). -/
theorem hostStep_error {s : State} {q : Request} {rest : List Request} {e : DecodeError}
    (hq : s.requests = q :: rest) (hd : decode (.request q) = .error e) :
    hostStep s = badCommand { s with requests := rest } := by
  simp [hostStep, State.takeRequest, hq, hd]

/-- Settles O8: an illegal word is a reserved row or is rejected, and all three are answered FAIL_BAD_COMMAND. -/
theorem illegalWordsRefused : Obligations.IllegalWordsRefused := by
  intro s c rest hphase hreq hillegal
  rw [step_between hphase]
  rcases decodeCommand_illegal hillegal with h8F | h67 | ⟨e, he⟩
  · exact hostStep_ok hreq h8F
  · exact hostStep_ok hreq h67
  · exact hostStep_error hreq he

/-- Settles O10: each word and each field list is decoded by evaluation. -/
theorem specWordsDecode : Obligations.SpecWordsDecode := by
  unfold Obligations.SpecWordsDecode
  decide

end Sys2Proof.Machine
end

section
/-! SUPPORT. The range decoder in numbers: the symbol a scaled code selects, the registers a decode leaves as exact
naturals, and the bounds they keep (`40_range_decoder.md` R130, R135, R139). -/

namespace Sys2Proof.Machine

theorem one_le_getD_of_positive {f : List Counter} (hf : positive f = true) {k : Nat} (hk : k < f.length) :
    1 ≤ (f.getD k 0).toNat := by
  have hall : ∀ x ∈ f, 1 ≤ x.toNat := by simpa [positive] using hf
  rw [List.getD_eq_getElem _ _ hk]
  exact hall _ (List.getElem_mem hk)

theorem getD_le_total (f : List Counter) (k : Nat) : (f.getD k 0).toNat ≤ total f := by
  have hk := cumBelow_le_total f (k + 1)
  rw [cumBelow_succ] at hk
  omega

/-- No symbol past the one the search finds has its `CUM` at or below `v`: that `CUM` is at least the upper end of the
found symbol's interval. -/
theorem le_symbolAt_of_cumBelow_le {f : List Counter} {v k : Nat} (hv : v < total f) (hk : cumBelow f k ≤ v) :
    k ≤ symbolAt f v := by
  obtain ⟨-, -, hend⟩ := symbolAt_spec f v hv
  by_contra hlt
  have : cumBelow f (symbolAt f v + 1) ≤ cumBelow f k := cumBelow_mono f (by omega)
  omega

/-- The decoded symbol exists, and the scaled code lies in its interval. -/
theorem decodeFreq_sym_spec {f : List Counter} {rg cd : Word} {d : Decoded} (h : decodeFreq f rg cd = some d) :
    d.sym < f.length ∧ cumBelow f d.sym ≤ cd.toNat / (rg.toNat / total f)
    ∧ cd.toNat / (rg.toNat / total f) < cumBelow f d.sym + (f.getD d.sym 0).toNat := by
  obtain ⟨hv, hsym, -, -⟩ := decodeFreq_cases h
  rw [← cumBelow_succ, hsym]
  exact symbolAt_spec f _ hv

theorem scaled_counter_le_range (f : List Counter) (rg : Word) (k : Nat) :
    rg.toNat / total f * (f.getD k 0).toNat ≤ rg.toNat :=
  (Nat.mul_le_mul_left _ (getD_le_total f k)).trans (Nat.div_mul_le_self _ _)

/-- The new `RANGE` fits its register, so it is the exact product. -/
theorem decodeFreq_range_toNat {f : List Counter} {rg cd : Word} {d : Decoded} (h : decodeFreq f rg cd = some d) :
    d.range.toNat = rg.toNat / total f * (f.getD d.sym 0).toNat := by
  obtain ⟨-, -, hrange, -⟩ := decodeFreq_cases h
  rw [hrange, BitVec.toNat_ofNat]
  exact Nat.mod_eq_of_lt ((scaled_counter_le_range f rg d.sym).trans_lt rg.isLt)

/-- The new `CODE` fits its register, so it is the exact difference. -/
theorem decodeFreq_code_toNat {f : List Counter} {rg cd : Word} {d : Decoded} (h : decodeFreq f rg cd = some d) :
    d.code.toNat = cd.toNat - rg.toNat / total f * cumBelow f d.sym := by
  obtain ⟨-, -, -, hcode⟩ := decodeFreq_cases h
  rw [hcode, BitVec.toNat_ofNat]
  exact Nat.mod_eq_of_lt ((Nat.sub_le _ _).trans_lt cd.isLt)

/-- A total of at most `2^16` scales a normalised `RANGE` to at least `2^8` (`40_range_decoder.md` R139). -/
theorem le_range_div_total {f : List Counter} {rg : Word} (hpos : 0 < total f) (htotal : total f ≤ 2 ^ 16)
    (hrg : 2 ^ 24 ≤ rg.toNat) : 2 ^ 8 ≤ rg.toNat / total f := by
  rw [Nat.le_div_iff_mul_le hpos]
  omega

/-- The code value lies in the interval the decode selects, so what is left of it lies below the interval's width. -/
theorem decodeFreq_code_lt_range {f : List Counter} {rg cd : Word} {d : Decoded} (h : decodeFreq f rg cd = some d)
    (hr : 0 < rg.toNat / total f) : d.code.toNat < d.range.toNat := by
  obtain ⟨-, hlow, hhigh⟩ := decodeFreq_sym_spec h
  rw [decodeFreq_code_toNat h, decodeFreq_range_toNat h]
  rw [Nat.le_div_iff_mul_le hr, Nat.mul_comm] at hlow
  rw [Nat.div_lt_iff_lt_mul hr, Nat.mul_comm, Nat.mul_add] at hhigh
  omega

/-- A direct bit fails exactly when the scaled code is past the table `[1, 1]` (`40_range_decoder.md` R137). -/
theorem decodeDirect_eq_none {s : State} :
    decodeDirect s = none ↔ 2 ≤ s.code.toNat / (s.range.toNat / 2) := by
  simp only [decodeDirect, Nat.shiftRight_one]
  split <;> simp_all

/-- The registers after a direct bit fit, so they are the exact half and difference. -/
theorem decodeDirect_toNat {s t : State} {bit : Nat} (h : decodeDirect s = some (bit, t)) :
    t.range.toNat = s.range.toNat / 2 ∧ t.code.toNat = s.code.toNat - s.range.toNat / 2 * bit := by
  obtain ⟨-, -, rfl⟩ := decodeDirect_cases h
  rw [Nat.shiftRight_one]
  constructor
  · exact Nat.mod_eq_of_lt ((Nat.div_le_self _ _).trans_lt s.range.isLt)
  · exact Nat.mod_eq_of_lt ((Nat.sub_le _ _).trans_lt s.code.isLt)

end Sys2Proof.Machine
end

section
/-! CLAIM. O36, O37, O38: what DecodeFreq and DecodeDirect give, when they fail and the bounds they keep
(`40_range_decoder.md` R135, R137, R139). -/

namespace Sys2Proof.Machine

/-- Settles O36: the search gives the largest symbol, and no result of the arithmetic outgrows its register. -/
theorem decodeFreqSelectsSymbol : Obligations.DecodeFreqSelectsSymbol := by
  intro f rg cd _ _ _ _
  refine ⟨decodeFreq_eq_none.mpr, fun hv => ?_⟩
  obtain ⟨d, hd⟩ := Option.ne_none_iff_exists'.mp (mt decodeFreq_eq_none.mp hv.not_ge)
  obtain ⟨hlen, hlow, -⟩ := decodeFreq_sym_spec hd
  obtain ⟨-, hsym, -, -⟩ := decodeFreq_cases hd
  exact ⟨d, hd, hlen, hlow, fun k _ hk => hsym ▸ le_symbolAt_of_cumBelow_le hv hk,
    decodeFreq_range_toNat hd, decodeFreq_code_toNat hd⟩

/-- Settles O37: the scaled range is at least `2^8`, and the symbol's counter is between 1 and the total. -/
theorem decodeKeepsBounds : Obligations.DecodeKeepsBounds := by
  intro f rg cd d hpositive _ htotal hrg hd
  obtain ⟨hv, -, -, -⟩ := decodeFreq_cases hd
  obtain ⟨hlen, -, -⟩ := decodeFreq_sym_spec hd
  have hr : 2 ^ 8 ≤ rg.toNat / total f := le_range_div_total (Nat.zero_lt_of_lt hv) htotal hrg
  refine ⟨decodeFreq_code_lt_range hd (by omega), ?_, ?_⟩
  · rw [decodeFreq_range_toNat hd]
    exact hr.trans (Nat.le_mul_of_pos_right _ (one_le_getD_of_positive hpositive hlen))
  · rw [decodeFreq_range_toNat hd]
    exact scaled_counter_le_range f rg d.sym

/-- Settles O38: a direct bit that decodes is the scaled code, and it writes the coder's two registers alone. -/
theorem directBit : Obligations.DirectBit := by
  intro s _
  refine ⟨decodeDirect_eq_none.mpr, fun hv => ?_⟩
  obtain ⟨⟨bit, t⟩, ht⟩ := Option.ne_none_iff_exists'.mp (mt decodeDirect_eq_none.mp hv.not_ge)
  obtain ⟨hrange, hcode⟩ := decodeDirect_toNat ht
  obtain ⟨hbit, -, hstate⟩ := decodeDirect_cases ht
  rw [Nat.shiftRight_one] at hbit
  subst hbit
  exact ⟨t, ht, hrange, hcode, by rw [hstate]; rfl⟩

end Sys2Proof.Machine
end

section
/-! SUPPORT. The model bank in numbers: each counter of a model after an update, its total, and the bounds that an
update keeps (`41_model_bank.md` R163-R166). -/

namespace Sys2Proof.Machine

theorem tmax_eq (rate : Nat) : Config.tmax rate = 1024 * 4 ^ rate := by
  rw [Config.tmax, Nat.shiftLeft_eq, show 4 = 2 ^ 2 from rfl, ← pow_mul]

theorem le_tmax (rate : Nat) : 1024 ≤ Config.tmax rate := by
  rw [tmax_eq]
  exact Nat.le_mul_of_pos_right _ (by positivity)

theorem tmax_le {rate : Nat} (h : rate < 4) : Config.tmax rate ≤ 2 ^ 16 := by
  have hpow : 4 ^ rate ≤ 4 ^ 3 := Nat.pow_le_pow_right (by decide) (by omega)
  rw [tmax_eq]
  omega

/-- The converse of `one_le_getD_of_positive`. -/
theorem positive_of_getD {f : List Counter} (h : ∀ k, k < f.length → 1 ≤ (f.getD k 0).toNat) :
    positive f = true := by
  simp only [positive, List.all_eq_true, decide_eq_true_eq]
  intro x hx
  obtain ⟨k, hk, rfl⟩ := List.getElem_of_mem hx
  rw [← List.getD_eq_getElem f 0 hk]
  exact h k hk

/-! ### The increment and the rescale -/

/-- Each counter after the increment; none outgrows its register. -/
theorem bump_getD_toNat {f : List Counter} (hroom : total f + 32 < 2 ^ 17) {sym i : Nat} (hi : i < f.length) :
    ((bump f sym).getD i 0).toNat = (f.getD i 0).toNat + (if i = sym then 32 else 0) := by
  have hx := getD_le_total f i
  rw [List.getD_eq_getElem _ _ hi] at hx ⊢
  rw [List.getD_eq_getElem _ _ (by simpa using hi)]
  simp only [bump, List.getElem_modify, eq_comm (a := sym)]
  split
  · exact Nat.mod_eq_of_lt (by simp only [Config.inc]; omega)
  · rfl

theorem total_bump {f : List Counter} (hroom : total f + 32 < 2 ^ 17) {sym : Nat} (hsym : sym < f.length) :
    total (bump f sym) = total f + 32 := by
  induction f generalizing sym with
  | nil => cases hsym
  | cons x f ih =>
    rw [total_cons] at hroom ⊢
    cases sym with
    | zero =>
      have hx : (BitVec.ofNat 17 (x.toNat + 32)).toNat = x.toNat + 32 := Nat.mod_eq_of_lt (by omega)
      simp only [bump, List.modify_zero_cons, total_cons, Config.inc, hx]
      omega
    | succ sym =>
      have hf : total (bump f sym) = total f + 32 := ih (by omega) (by simpa using hsym)
      rw [bump] at hf
      simp only [bump, List.modify_succ_cons, total_cons, hf]
      omega

theorem rescaled_toNat (x : Counter) : (BitVec.ofNat 17 ((x.toNat + 1) >>> 1)).toNat = (x.toNat + 1) / 2 := by
  rw [Nat.shiftRight_one]
  exact Nat.mod_eq_of_lt (by omega)

theorem rescale_getD_toNat (f : List Counter) (i : Nat) :
    ((rescale f).getD i 0).toNat = ((f.getD i 0).toNat + 1) / 2 := by
  rw [← rescaled_toNat]
  exact congrArg BitVec.toNat (List.getD_map f 0 fun x : Counter => BitVec.ofNat 17 ((x.toNat + 1) >>> 1))

/-- Halving rounds each counter up by at most a half. -/
theorem two_mul_total_rescale_le (f : List Counter) : 2 * total (rescale f) ≤ total f + f.length := by
  induction f with
  | nil => rfl
  | cons x f ih =>
    rw [rescale] at ih
    simp only [rescale, List.map_cons, total_cons, rescaled_toNat, List.length_cons]
    omega

/-! ### The update -/

/-- Each counter after an update: the increment, and the rescale where the new total is past the threshold. -/
theorem updated_getD_toNat {rate sym i : Nat} {f : List Counter} (hrate : rate < 4)
    (htotal : total f ≤ Config.tmax rate) (hsym : sym < f.length) (hi : i < f.length) :
    ((updated rate f sym).getD i 0).toNat =
      if total f + 32 ≤ Config.tmax rate then (f.getD i 0).toNat + (if i = sym then 32 else 0)
      else ((f.getD i 0).toNat + (if i = sym then 32 else 0) + 1) / 2 := by
  have hroom : total f + 32 < 2 ^ 17 := by have := tmax_le hrate; omega
  rw [updated, total_bump hroom hsym]
  by_cases h : total f + 32 ≤ Config.tmax rate
  · rw [if_pos h, if_neg h.not_gt, bump_getD_toNat hroom hi]
  · rw [if_neg h, if_pos (not_le.mp h), rescale_getD_toNat, bump_getD_toNat hroom hi]

theorem positive_updated {rate sym : Nat} {f : List Counter} (hrate : rate < 4) (hpositive : positive f = true)
    (htotal : total f ≤ Config.tmax rate) (hsym : sym < f.length) : positive (updated rate f sym) = true := by
  refine positive_of_getD fun k hk => ?_
  rw [length_updated] at hk
  have hone := one_le_getD_of_positive hpositive hk
  rw [updated_getD_toNat hrate htotal hsym hk]
  split <;> omega

/-- The rescale brings the total of at most 256 counters, one increment past the threshold, back within it. -/
theorem total_updated_le {rate sym : Nat} {f : List Counter} (hrate : rate < 4) (hlength : f.length ≤ 256)
    (htotal : total f ≤ Config.tmax rate) (hsym : sym < f.length) :
    total (updated rate f sym) ≤ Config.tmax rate := by
  have hmin := le_tmax rate
  have hmax := tmax_le hrate
  have hbump : total (bump f sym) = total f + 32 := total_bump (by omega) hsym
  rw [updated]
  split
  · have hhalf := two_mul_total_rescale_le (bump f sym)
    rw [length_bump, hbump] at hhalf
    omega
  · omega

end Sys2Proof.Machine
end

section
/-! CLAIM. O39, O40: what ModelUpdate gives and the bounds it keeps (`41_model_bank.md` R163, R164, R166). -/

namespace Sys2Proof.Machine

/-- Settles O39: the update computes each counter exactly, as none outgrows its register, and writes one model. -/
theorem modelUpdateCounters : Obligations.ModelUpdateCounters := by
  rintro c s n sym i hrate _ ⟨rfl, -, htotal⟩ hsym hi
  rw [modelUpdate_freq, Bank.get_set_same]
  refine ⟨?_, length_updated .., fun c' hc => Bank.get_set_other _ _ hc, rfl⟩
  rw [← tmax_eq]
  exact updated_getD_toNat hrate htotal hsym hi

/-- Settles O40: counters stay positive through the halving, which rounds up, and one halving makes up for the
increment. -/
theorem modelUpdateKeepsBounds : Obligations.ModelUpdateKeepsBounds := by
  rintro rate n f sym hrate hn ⟨rfl, hpositive, htotal⟩ hsym
  exact ⟨length_updated .., positive_updated hrate hpositive htotal hsym, total_updated_le hrate hn htotal hsym⟩

end Sys2Proof.Machine
end

section
/-! SUPPORT. Counting registers as numbers, and the window's indices: a write at a listed index keeps the list, one at
its end adds the index, so that Produce keeps the window written exactly at the last `CAP` bytes
(`42_history_window.md` R190). -/

namespace Sys2Proof.Machine

/-- A counting register that is not at its largest value counts up. -/
theorem add_one_toNat {w : Nat} {x : BitVec w} (hx : x.toNat + 1 < 2 ^ w) : (x + 1).toNat = x.toNat + 1 := by
  simp [BitVec.toNat_add, Nat.mod_eq_of_lt hx]

/-- A counting register that is not 0 counts down. -/
theorem sub_one_toNat {w : Nat} {x : BitVec w} (hx : 1 ≤ x.toNat) : (x - 1).toNat = x.toNat - 1 := by
  have hone : (1 : BitVec w).toNat = 1 := Nat.mod_eq_of_lt (hx.trans_lt x.isLt)
  rw [BitVec.toNat_sub_of_le (by rwa [BitVec.le_def, hone]), hone]

theorem Memory.indices_write_of_lt {w : List Host.Cell} {n k i : Nat} (b : Byte)
    (h : w.map Prod.fst = List.range' k n) (hk : k ≤ i) (hi : i < k + n) :
    (Memory.write w i b).map Prod.fst = List.range' k n := by
  induction w generalizing n k with
  | nil =>
    obtain rfl : n = 0 := by simpa [eq_comm] using congrArg List.length h
    omega
  | cons c rest ih =>
    cases n with
    | zero => simp at h
    | succ n =>
      obtain ⟨rfl, hrest⟩ : c.1 = k ∧ rest.map Prod.fst = List.range' (k + 1) n := by
        simpa [List.range'_succ] using h
      rw [List.range'_succ]
      by_cases hci : c.1 = i
      · simp [Memory.write, hci, hrest]
      · simp [Memory.write, hci, show ¬ i < c.1 by omega, ih hrest (by omega) (by omega)]

theorem Memory.indices_write_end {w : List Host.Cell} {n k : Nat} (b : Byte)
    (h : w.map Prod.fst = List.range' k n) :
    (Memory.write w (k + n) b).map Prod.fst = List.range' k (n + 1) := by
  induction w generalizing n k with
  | nil =>
    obtain rfl : n = 0 := by simpa [eq_comm] using congrArg List.length h
    rfl
  | cons c rest ih =>
    cases n with
    | zero => simp at h
    | succ n =>
      obtain ⟨rfl, hrest⟩ : c.1 = k ∧ rest.map Prod.fst = List.range' (k + 1) n := by
        simpa [List.range'_succ] using h
      have hend := ih hrest
      rw [Nat.add_right_comm, Nat.add_assoc] at hend
      rw [List.range'_succ, ← hend]
      simp [Memory.write]

theorem produced_windowOk {s : State} (b : Byte) (hs : s.windowOk) (ht : s.totalOut.toNat + 1 < 2 ^ 64) :
    (produced b s).windowOk := by
  show (Memory.write s.win (s.totalOut.toNat % s.cap) b).map Prod.fst
    = List.range (min (s.totalOut + 1).toNat s.cap)
  rw [State.windowOk] at hs
  rw [add_one_toNat ht]
  rw [List.range_eq_range'] at hs ⊢
  have hcap : 0 < s.cap := Nat.two_pow_pos _
  rcases Nat.lt_or_ge s.totalOut.toNat s.cap with hlt | hge
  · rw [Nat.min_eq_left hlt.le] at hs
    rw [Nat.mod_eq_of_lt hlt, Nat.min_eq_left hlt]
    simpa using Memory.indices_write_end b hs
  · rw [Nat.min_eq_right hge] at hs
    rw [Nat.min_eq_right (by omega)]
    exact Memory.indices_write_of_lt b hs (Nat.zero_le _) (by simpa using Nat.mod_lt _ hcap)

end Sys2Proof.Machine
end

section
/-! SUPPORT. What the driver assembles bit by bit and byte by byte, as exact numbers: a register that has room for one
more holds twice, or 256 times, what it held, and the new part (`30_encoding.md` R103, R104, `40_range_decoder.md` R132,
R134). -/

namespace Sys2Proof.Machine

theorem needsNorm_eq_true {s : State} : s.needsNorm = true ↔ s.range.toNat < 2 ^ 24 := by
  simp [State.needsNorm]

theorem needsNorm_eq_false {s : State} : s.needsNorm = false ↔ 2 ^ 24 ≤ s.range.toNat := by
  simp [State.needsNorm]

/-- A register shifted left by `k`, with a smaller number put into the room. -/
theorem shiftLeft_or_toNat {x y : Word} {k : Nat} (hx : x.toNat * 2 ^ k < 2 ^ 32) (hy : y.toNat < 2 ^ k) :
    (x <<< k ||| y).toNat = x.toNat * 2 ^ k + y.toNat := by
  rw [BitVec.toNat_or, BitVec.toNat_shiftLeft, Nat.shiftLeft_eq, Nat.mod_eq_of_lt hx, ← Nat.shiftLeft_eq,
    ← Nat.shiftLeft_add_eq_or_of_lt hy]

theorem codeWithByte_toNat {x : Word} (b : Byte) (hx : x.toNat < 2 ^ 24) :
    (codeWithByte x b).toNat = x.toNat * 2 ^ 8 + b.toNat := by
  have hb : (b.setWidth 32).toNat = b.toNat := BitVec.toNat_setWidth_of_le (by decide)
  rw [codeWithByte, shiftLeft_or_toNat (by omega) (by omega), hb]

theorem storedWithBit_toNat {x : Word} {bit : Nat} (hx : x.toNat < 2 ^ 31) (hbit : bit < 2) :
    (storedWithBit x bit).toNat = 2 * x.toNat + bit := by
  have hb : (BitVec.ofNat 32 bit).toNat = bit := Nat.mod_eq_of_lt (by omega)
  rw [storedWithBit, shiftLeft_or_toNat (by omega) (by omega), hb, Nat.pow_one, Nat.mul_comm]

theorem shiftLeft_byte_toNat {x : Word} (hx : x.toNat < 2 ^ 24) : (x <<< 8).toNat = x.toNat * 2 ^ 8 := by
  rw [BitVec.toNat_shiftLeft, Nat.shiftLeft_eq]
  exact Nat.mod_eq_of_lt (by omega)

/-- A number of which `x + 1` low bits are still to come, within `2^(n + 1)`: one more bit keeps it there. -/
theorem two_mul_add_bit_mul_lt {d n x bit : Nat} (hd : d * 2 ^ (x + 1) < 2 ^ (n + 1)) (hx : x ≤ n) (hbit : bit < 2) :
    (2 * d + bit) * 2 ^ x < 2 ^ (n + 1) := by
  obtain ⟨k, rfl⟩ := Nat.exists_eq_add_of_le' hx
  have hsplit : 2 ^ (k + x + 1) = 2 ^ k * 2 ^ (x + 1) := by ring
  rw [hsplit] at hd ⊢
  have hlt : d < 2 ^ k := Nat.lt_of_mul_lt_mul_right hd
  calc (2 * d + bit) * 2 ^ x < 2 * 2 ^ k * 2 ^ x := Nat.mul_lt_mul_of_pos_right (by omega) (Nat.two_pow_pos x)
    _ = 2 ^ k * 2 ^ (x + 1) := by ring

end Sys2Proof.Machine
end

section
/-! SUPPORT. What every micro-step keeps of a live session, one part of `State.sessionOk` at a time: each is a case
analysis of `microStep_cases`, in which most cases do not write what the part speaks of (`43_decode_driver.md`
R211-R226). -/

namespace Sys2Proof.Machine

theorem Micro.Leaves.and {P Q : State → Prop} {m : Micro} (hP : m.Leaves P) (hQ : m.Leaves Q) :
    m.Leaves fun t => P t ∧ Q t := by
  cases m with
  | cont t => exact ⟨hP, hQ⟩
  | stop c t => exact ⟨hP, hQ⟩
  | fault f => trivial

theorem microStep_configOk {s : State} (hs : s.configOk) : (microStep s).Leaves State.configOk := by
  refine (microStep_sameConfig s).imp fun t ⟨hdict, hrate, _⟩ => ?_
  rw [State.configOk, hdict, hrate]
  exact hs

/-! ### The models -/

/-- How many symbols the model of a context has (`10_state.md` R43). -/
def State.alphabetSize (s : State) : Ctx → Nat
  | .ctrl => Config.nCtrl
  | .lit => Config.nLit
  | .len => Config.nLen
  | .slot => Config.nSlot s.cfgDictLog2.toNat

theorem State.bankOk_iff {s : State} :
    s.bankOk ↔ ∀ c, modelOk s.cfgRate.toNat (s.alphabetSize c) (s.freq.get c) := by
  constructor
  · rintro ⟨hctrl, hlit, hlen, hslot⟩ c
    cases c with
    | ctrl => exact hctrl
    | lit => exact hlit
    | len => exact hlen
    | slot => exact hslot
  · exact fun h => ⟨h .ctrl, h .lit, h .len, h .slot⟩

theorem alphabetSize_bounds {s : State} (hs : s.configOk) (c : Ctx) :
    2 ≤ s.alphabetSize c ∧ s.alphabetSize c ≤ 256 := by
  obtain ⟨hmin, hmax, -⟩ : 4 ≤ _ ∧ _ ≤ 24 ∧ _ := hs
  cases c with
  | slot =>
    show 2 ≤ s.cfgDictLog2.toNat + 1 ∧ s.cfgDictLog2.toNat + 1 ≤ 256
    omega
  | ctrl | lit | len => simp [State.alphabetSize, Config.nCtrl, Config.nLit, Config.nLen]

theorem State.symbolNext.at_dstate {s : State} {c : Ctx} {d : Decoded} (hd : s.symbolNext c d) :
    s.dstate = c.dstate := by
  obtain ⟨⟨hdstate, -⟩, -⟩ := hd
  exact hdstate

/-- A decoded symbol is one of its alphabet. -/
theorem symbolNext_sym_lt {s : State} {c : Ctx} {d : Decoded} (hb : s.bankOk) (hd : s.symbolNext c d) :
    d.sym < s.alphabetSize c := by
  obtain ⟨hlength, -, -⟩ := State.bankOk_iff.mp hb c
  obtain ⟨hsym, -, -⟩ := decodeFreq_sym_spec hd.2
  rwa [hlength] at hsym

theorem afterSymbol_bankOk {s : State} {c : Ctx} {d : Decoded} (hc : s.configOk) (hb : s.bankOk)
    (hd : s.symbolNext c d) : (afterSymbol c d s).bankOk := by
  have hmodels := State.bankOk_iff.mp hb
  have hsym : d.sym < s.alphabetSize c := symbolNext_sym_lt hb hd
  obtain ⟨-, hsize⟩ := alphabetSize_bounds hc c
  obtain ⟨-, -, hrate⟩ := hc
  refine State.bankOk_iff.mpr fun c' => ?_
  by_cases h : c' = c
  · subst h
    rw [modelUpdate_freq, Bank.get_set_same]
    exact modelUpdateKeepsBounds _ _ _ _ hrate hsize (hmodels c') hsym
  · rw [modelUpdate_freq, Bank.get_set_other _ _ h]
    exact hmodels c'

theorem microStep_bankOk {s : State} (hc : s.configOk) (hs : s.bankOk) : (microStep s).Leaves State.bankOk := by
  generalize hm : microStep s = m
  cases microStep_cases hm with
  | ctrlLit d hd | ctrlMatch d hd | ctrlEos d hd | literal d hd | length d hd | slotNear d hd | slotBad d hd
  | slotExtra d hd => exact afterSymbol_bankOk (s := s) hc hs hd
  | overflow | ended => trivial
  | _ => exact hs

/-! ### The coder -/

/-- The coder's registers once the initial bytes are in: the second clause of `State.coderOk`
(`40_range_decoder.md` R139). -/
def State.coderLoaded (s : State) : Prop :=
  s.initCnt.toNat = Config.rcInitBytes ∧ 2 ^ 8 ≤ s.range.toNat
    ∧ (s.code.toNat < s.range.toNat ∨ s.range = Config.rangeInit)

theorem coderOk_of_loaded {s : State} (hd : s.dstate ≠ .rcInit) (h : s.coderLoaded) : s.coderOk :=
  ⟨fun hd' => absurd hd' hd, fun _ => h⟩

theorem afterSymbol_coderLoaded {s : State} {c : Ctx} {d : Decoded} (hc : s.configOk) (hb : s.bankOk)
    (hs : s.coderLoaded) (hd : s.symbolNext c d) : (afterSymbol c d s).coderLoaded := by
  obtain ⟨⟨-, hnorm⟩, hdecode⟩ := hd
  obtain ⟨hlength, hpositive, htotal⟩ := State.bankOk_iff.mp hb c
  obtain ⟨hsize, -⟩ := alphabetSize_bounds hc c
  obtain ⟨-, -, hrate⟩ := hc
  obtain ⟨hcode, hrange, -⟩ := decodeKeepsBounds _ _ _ d hpositive (hlength ▸ hsize) (htotal.trans (tmax_le hrate))
    (needsNorm_eq_false.mp hnorm) hdecode
  exact ⟨hs.1, hrange, .inl hcode⟩

theorem afterBit_coderLoaded {s : State} {bit : Nat} {rg cd : Word} (hs : s.coderLoaded) (hn : s.needsNorm = false)
    (hb : decodeDirect s = some (bit, s.setCoder rg cd)) : (s.setCoder rg cd).coderLoaded := by
  have hnorm := needsNorm_eq_false.mp hn
  obtain ⟨hrange, hcode⟩ : rg.toNat = _ ∧ cd.toNat = _ := decodeDirect_toNat hb
  obtain ⟨hbit, -, -⟩ := decodeDirect_cases hb
  have hrest : s.code.toNat - s.range.toNat / 2 * bit = s.code.toNat % (s.range.toNat / 2) := by
    rw [hbit, Nat.shiftRight_one, Nat.mod_eq_sub]
  have hlt : s.code.toNat % (s.range.toNat / 2) < s.range.toNat / 2 := Nat.mod_lt _ (by omega)
  refine ⟨hs.1, ?_, .inl ?_⟩
  · show 2 ^ 8 ≤ rg.toNat
    omega
  · show cd.toNat < rg.toNat
    omega

theorem rcNorm_coderLoaded {s : State} (hs : s.coderLoaded) (hn : s.needsNorm = true) : (rcNorm s).coderLoaded := by
  obtain ⟨hcnt, hmin, hcode⟩ := hs
  have hnorm := needsNorm_eq_true.mp hn
  have hlt : s.code.toNat < s.range.toNat := hcode.resolve_right fun h => by
    rw [h] at hnorm
    exact absurd hnorm (by decide)
  refine ⟨hcnt, ?_, .inl ?_⟩
  · rw [rcNorm_range, shiftLeft_byte_toNat hnorm]
    omega
  · rw [rcNorm_range, rcNorm_code, shiftLeft_byte_toNat hnorm, codeWithByte_toNat _ (by omega)]
    omega

/-- Each initial byte past the first brings eight bits into `CODE` (`40_range_decoder.md` R132). -/
theorem rcLoad_code_lt {s : State} {cd : Word} (hcnt : s.initCnt.toNat < 5)
    (hcode : s.code.toNat < 256 ^ (s.initCnt.toNat - 1))
    (hl : rcLoad s = .cont { s.takeByte with code := cd, initCnt := s.initCnt + 1 }) :
    cd.toNat < 256 ^ s.initCnt.toNat := by
  rcases rcLoad_cases s with ⟨h0, -, hr⟩ | ⟨-, -, hr⟩ | ⟨h0, hr⟩
  · obtain rfl : s.code = cd := by simpa using hr.symm.trans hl
    simpa [h0] using hcode
  · cases hr.symm.trans hl
  · obtain rfl : codeWithByte s.code s.nextByte = cd := by simpa using hr.symm.trans hl
    have hpos : s.initCnt.toNat ≠ 0 := fun h => h0 (BitVec.eq_of_toNat_eq h)
    obtain ⟨n, hn⟩ := Nat.exists_eq_succ_of_ne_zero hpos
    have hbound : 256 ^ n ≤ 256 ^ 3 := Nat.pow_le_pow_right (by decide) (by omega)
    rw [hn, Nat.succ_sub_one] at hcode
    rw [hn, codeWithByte_toNat _ (by omega), Nat.pow_succ]
    omega

theorem State.symbolNext.ne_rcInit {s : State} {c : Ctx} {d : Decoded} (hd : s.symbolNext c d) :
    s.dstate ≠ .rcInit := by
  rw [hd.at_dstate]
  cases c <;> simp [Ctx.dstate]

theorem microStep_coderOk {s : State} (hc : s.configOk) (hb : s.bankOk) (hs : s.coderOk) :
    (microStep s).Leaves State.coderOk := by
  obtain ⟨hinit, hloaded⟩ := hs
  generalize hm : microStep s = m
  cases microStep_cases hm with
  | loaded hd ha cd hl hn =>
    obtain ⟨hrange, hcnt, hcode⟩ : _ ∧ s.initCnt.toNat < 5 ∧ _ := hinit hd
    have hsucc : (s.initCnt + 1).toNat = s.initCnt.toNat + 1 := add_one_toNat (by omega)
    refine ⟨fun _ => ⟨hrange, ?_, ?_⟩, fun h => absurd hd h⟩
    · exact lt_of_le_of_ne (hsucc ▸ hcnt) hn
    · show cd.toNat < 256 ^ ((s.initCnt + 1).toNat - 1)
      rw [hsucc]
      exact rcLoad_code_lt hcnt hcode hl
  | loadedLast hd ha cd hl hn =>
    obtain ⟨hrange, -, -⟩ := hinit hd
    refine coderOk_of_loaded (by simp) ⟨hn, ?_, .inr hrange⟩
    show 2 ^ 8 ≤ s.range.toNat
    rw [hrange]
    decide
  | renormalised hd hn =>
    have hne : s.dstate ≠ .rcInit := fun h => by simp [h, DState.decodes] at hd
    exact coderOk_of_loaded hne (rcNorm_coderLoaded (hloaded hne) hn)
  | ctrlLit d hd | ctrlMatch d hd | ctrlEos d hd | literal d hd | length d hd | slotNear d hd | slotExtra d hd =>
    exact coderOk_of_loaded (by simp) (afterSymbol_coderLoaded (s := s) hc hb (hloaded hd.ne_rcInit) hd)
  | slotBad d hd =>
    exact coderOk_of_loaded hd.ne_rcInit (afterSymbol_coderLoaded (s := s) hc hb (hloaded hd.ne_rcInit) hd)
  | extraBit hd bit rg cd hbit | extraBad hd bit rg cd hbit | csumBit hd bit rg cd hbit | csumBad hd bit rg cd hbit =>
    have hne : s.dstate ≠ .rcInit := by simp [hd.1]
    exact coderOk_of_loaded hne (afterBit_coderLoaded (s := s) (hloaded hne) hd.2 hbit)
  | extraDone hd bit rg cd hbit | csumDone hd bit rg cd hbit =>
    exact coderOk_of_loaded (by simp) (afterBit_coderLoaded (s := s) (hloaded (by simp [hd.1])) hd.2 hbit)
  | emitted hd | copiedLast hd => exact coderOk_of_loaded (by simp) (hloaded (by simp [hd]))
  | tailDone hd => exact coderOk_of_loaded (by simp) (hloaded (by simp [hd.1]))
  | overflow | ended => trivial
  | truncated | needsInput | needsOutput | badFirstByte | noSymbol | noBit | copied | tailBad =>
    exact ⟨hinit, hloaded⟩

/-! ### The checksum accumulator and the window -/

theorem produced_adlerOk (b : Byte) (s : State) : (produced b s).adlerOk := by
  have hmod (n : Nat) : (BitVec.ofNat 16 (n % Config.adlerMod)).toNat < Config.adlerMod :=
    (Nat.mod_le _ _).trans_lt (Nat.mod_lt _ (by decide))
  exact ⟨hmod _, hmod _⟩

theorem microStep_adlerOk {s : State} (hs : s.adlerOk) : (microStep s).Leaves State.adlerOk := by
  generalize hm : microStep s = m
  cases microStep_cases hm with
  | emitted | copied | copiedLast => exact produced_adlerOk _ s
  | overflow | ended => trivial
  | _ => exact hs

theorem microStep_windowOk {s : State} (hs : s.windowOk) : (microStep s).Leaves State.windowOk := by
  generalize hm : microStep s = m
  cases microStep_cases hm with
  | emitted hd ho ht | copied hd ho ht | copiedLast hd ho ht => exact produced_windowOk _ hs ht
  | overflow | ended => trivial
  | _ => exact hs

theorem microStep_winCanonical {s : State} (hs : Memory.wf s.win = true) :
    (microStep s).Leaves fun t => Memory.wf t.win = true := by
  generalize hm : microStep s = m
  cases microStep_cases hm with
  | emitted | copied | copiedLast => exact Memory.wf_write _ _ _ hs
  | overflow | ended => trivial
  | _ => exact hs

end Sys2Proof.Machine
end

section
/-! SUPPORT. The parts of `State.sessionOk` that also look at `PHASE` (the match registers, the stored checksum, `PHASE`
itself), and the cursor: what a micro-step of a running STEP keeps of them. -/

namespace Sys2Proof.Machine

/-! ### The match registers -/

theorem distOk_eq_true {d : Word} {s : State} :
    distOk d s = true ↔ d.toNat ≤ s.totalOut.toNat ∧ d.toNat ≤ s.cap := by
  simp [distOk]

/-- The clauses of `State.matchOk` that hold in every sub-state. -/
def State.matchBounded (s : State) : Prop :=
  s.mlen.toNat ≤ 257 ∧ s.mdist.toNat < 2 ^ (s.cfgDictLog2.toNat + 1) ∧ s.xbits.toNat ≤ s.cfgDictLog2.toNat

theorem State.matchOk.bounded {s : State} (hs : s.matchOk) : s.matchBounded := by
  obtain ⟨hlen, hdist, hbits, -⟩ := hs
  exact ⟨hlen, hdist, hbits⟩

theorem State.matchOk.atSlot {s : State} (hs : s.matchOk) (hd : s.dstate = .slot) : 2 ≤ s.mlen.toNat := by
  obtain ⟨-, -, -, hslot, -⟩ := hs
  exact hslot hd

theorem State.matchOk.atExtra {s : State} (hs : s.matchOk) (hd : s.dstate = .extra) :
    2 ≤ s.mlen.toNat ∧ 1 ≤ s.mdist.toNat
    ∧ s.mdist.toNat * 2 ^ s.xbits.toNat < 2 ^ (s.cfgDictLog2.toNat + 1)
    ∧ (s.phase ≠ .failed → 1 ≤ s.xbits.toNat) := by
  obtain ⟨-, -, -, -, hextra, -⟩ := hs
  exact hextra hd

theorem State.matchOk.atCopy {s : State} (hs : s.matchOk) (hd : s.dstate = .copy) :
    1 ≤ s.mlen.toNat ∧ 1 ≤ s.mdist.toNat ∧ s.mdist.toNat ≤ s.totalOut.toNat ∧ s.mdist.toNat ≤ s.cap := by
  obtain ⟨-, -, -, -, -, hcopy⟩ := hs
  exact hcopy hd

/-- Outside SLOT, EXTRA and COPY nothing more is asked. -/
theorem matchOk_of_bounded {s : State} (hs : s.matchBounded) (hslot : s.dstate ≠ .slot) (hextra : s.dstate ≠ .extra)
    (hcopy : s.dstate ≠ .copy) : s.matchOk := by
  obtain ⟨hlen, hdist, hbits⟩ := hs
  exact ⟨hlen, hdist, hbits, fun h => absurd h hslot, fun h => absurd h hextra, fun h => absurd h hcopy⟩

/-- A session that has not failed may change its phase. -/
theorem matchOk_setPhase {s : State} (hs : s.matchOk) (hp : s.phase ≠ .failed) (p : Phase) :
    (s.setPhase p).matchOk := by
  obtain ⟨hlen, hdist, hbits, hslot, hextra, hcopy⟩ := hs
  refine ⟨hlen, hdist, hbits, hslot, fun hd => ?_, hcopy⟩
  obtain ⟨hl, hd, hx, hrunning⟩ := hextra hd
  exact ⟨hl, hd, hx, fun _ => hrunning hp⟩

/-- In SLOT, with the length known. -/
theorem matchOk_slot {s : State} (hd : s.dstate = .slot) (hs : s.matchBounded) (hlen : 2 ≤ s.mlen.toNat) :
    s.matchOk := by
  obtain ⟨hmax, hdist, hbits⟩ := hs
  exact ⟨hmax, hdist, hbits, fun _ => hlen, fun h => by simp [hd] at h, fun h => by simp [hd] at h⟩

/-- In EXTRA the two bounds on the distance and the bits still to come follow from the one on both together. -/
theorem matchOk_extra {s : State} (hd : s.dstate = .extra) (hmax : s.mlen.toNat ≤ 257) (hlen : 2 ≤ s.mlen.toNat)
    (hdist : 1 ≤ s.mdist.toNat) (hbits : s.xbits.toNat ≤ s.cfgDictLog2.toNat)
    (hboth : s.mdist.toNat * 2 ^ s.xbits.toNat < 2 ^ (s.cfgDictLog2.toNat + 1))
    (hrunning : s.phase ≠ .failed → 1 ≤ s.xbits.toNat) : s.matchOk :=
  ⟨hmax, (Nat.le_mul_of_pos_right _ (Nat.two_pow_pos _)).trans_lt hboth, hbits, fun h => by simp [hd] at h,
    fun _ => ⟨hlen, hdist, hboth, hrunning⟩, fun h => by simp [hd] at h⟩

/-- In COPY, at a distance that has passed DistCheck. -/
theorem matchOk_copy {s : State} (hd : s.dstate = .copy) (hs : s.matchBounded) (hlen : 1 ≤ s.mlen.toNat)
    (hdist : 1 ≤ s.mdist.toNat) (hk : distOk s.mdist s = true) : s.matchOk := by
  obtain ⟨hmax, hmdist, hbits⟩ := hs
  obtain ⟨htotal, hcap⟩ := distOk_eq_true.mp hk
  exact ⟨hmax, hmdist, hbits, fun h => by simp [hd] at h, fun h => by simp [hd] at h,
    fun _ => ⟨hlen, hdist, htotal, hcap⟩⟩

/-- The length of a length symbol (`30_encoding.md` R102). -/
theorem lengthOf_toNat {sym : Nat} (h : sym < 256) : (lengthOf sym).toNat = sym + 2 :=
  Nat.mod_eq_of_lt (by simp only [Config.minMatch]; omega)

/-- What a length symbol leaves. -/
theorem afterLength_matchOk {s : State} {d : Decoded} (hb : s.bankOk) (hs : s.matchOk) (hd : s.symbolNext .len d) :
    ({ afterSymbol .len d s with mlen := lengthOf d.sym, dstate := .slot } : State).matchOk := by
  obtain ⟨-, hmdist, hbits⟩ := hs.bounded
  have hsym : d.sym < 256 := symbolNext_sym_lt hb hd
  have hlen := lengthOf_toNat hsym
  refine matchOk_slot rfl ⟨?_, hmdist, hbits⟩ ?_
  · show (lengthOf d.sym).toNat ≤ 257
    omega
  · show 2 ≤ (lengthOf d.sym).toNat
    omega

/-- `MDIST` 1, which every slot symbol leaves, is within the bounds of any class. -/
theorem withDistance_one_bounded {s : State} (hs : s.matchBounded) {x : BitVec 5}
    (hx : x.toNat ≤ s.cfgDictLog2.toNat) : (withDistance 1 x s).matchBounded := by
  obtain ⟨hmax, -, -⟩ := hs
  exact ⟨hmax, Nat.one_lt_two_pow (Nat.succ_ne_zero _), hx⟩

/-- What a slot symbol other than 0 leaves. -/
theorem afterSlot_matchOk {s : State} {d : Decoded} (hc : s.configOk) (hb : s.bankOk) (hs : s.matchOk)
    (hd : s.symbolNext .slot d) (h0 : d.sym ≠ 0) :
    ((withDistance 1 (BitVec.ofNat 5 d.sym) (afterSymbol .slot d s)).goto .extra).matchOk := by
  obtain ⟨hmax, -, -⟩ := hs.bounded
  obtain ⟨-, hdict, -⟩ : _ ∧ s.cfgDictLog2.toNat ≤ 24 ∧ _ := hc
  have hsym : d.sym < s.cfgDictLog2.toNat + 1 := symbolNext_sym_lt hb hd
  have hx : (BitVec.ofNat 5 d.sym).toNat = d.sym := Nat.mod_eq_of_lt (by omega)
  refine matchOk_extra rfl hmax (hs.atSlot hd.at_dstate) (Nat.le_refl 1) ?_ ?_ fun _ => ?_
  · show (BitVec.ofNat 5 d.sym).toNat ≤ s.cfgDictLog2.toNat
    omega
  · show 1 * 2 ^ (BitVec.ofNat 5 d.sym).toNat < 2 ^ (s.cfgDictLog2.toNat + 1)
    rw [hx, Nat.one_mul]
    exact Nat.pow_lt_pow_right (by decide) hsym
  · show 1 ≤ (BitVec.ofNat 5 d.sym).toNat
    omega

/-- The registers after one more extra bit: the distance as an exact number, still within the class of the slot, and one
bit fewer to come (`43_decode_driver.md` R220). -/
theorem extraBit_bounds {s : State} {bit : Nat} (hc : s.configOk) (hs : s.matchOk) (hd : s.dstate = .extra)
    (hp : s.phase ≠ .failed) (hbit : bit < 2) :
    1 ≤ (distanceWithBit s.mdist bit).toNat ∧ (s.xbits - 1).toNat ≤ s.cfgDictLog2.toNat
    ∧ (distanceWithBit s.mdist bit).toNat * 2 ^ (s.xbits - 1).toNat < 2 ^ (s.cfgDictLog2.toNat + 1) := by
  obtain ⟨-, -, hbits⟩ := hs.bounded
  obtain ⟨-, hdist, hboth, hrunning⟩ := hs.atExtra hd
  obtain ⟨x, hx⟩ := Nat.exists_eq_succ_of_ne_zero (Nat.ne_zero_of_lt (hrunning hp))
  obtain ⟨-, hdict, -⟩ : _ ∧ s.cfgDictLog2.toNat ≤ 24 ∧ _ := hc
  have hpred : (s.xbits - 1).toNat = x := by rw [sub_one_toNat (hrunning hp), hx, Nat.succ_sub_one]
  rw [hx] at hboth hbits
  have hnew := two_mul_add_bit_mul_lt hboth (Nat.le_of_succ_le hbits) hbit
  have hfits : 2 * s.mdist.toNat + bit < 2 ^ 25 :=
    calc 2 * s.mdist.toNat + bit ≤ (2 * s.mdist.toNat + bit) * 2 ^ x := Nat.le_mul_of_pos_right _ (Nat.two_pow_pos x)
      _ < 2 ^ (s.cfgDictLog2.toNat + 1) := hnew
      _ ≤ 2 ^ 25 := Nat.pow_le_pow_right (by decide) (by omega)
  have hexact : (distanceWithBit s.mdist bit).toNat = 2 * s.mdist.toNat + bit := Nat.mod_eq_of_lt (by omega)
  rw [hexact, hpred]
  exact ⟨by omega, by omega, hnew⟩

/-- What an extra bit leaves where it stays in EXTRA, running on or failed at DistCheck. -/
theorem afterExtraBit_matchOk {s : State} {bit : Nat} {rg cd : Word} (hc : s.configOk) (hs : s.matchOk)
    (hd : s.dstate = .extra) (hp : s.phase ≠ .failed) (hbit : bit < 2) {ph : Phase}
    (hx : ph ≠ .failed → s.xbits - 1 ≠ 0) :
    ((withDistance (distanceWithBit s.mdist bit) (s.xbits - 1) (s.setCoder rg cd)).setPhase ph).matchOk := by
  obtain ⟨hdist, hbits, hboth⟩ := extraBit_bounds hc hs hd hp hbit
  obtain ⟨hmax, -, -⟩ := hs.bounded
  obtain ⟨hlen, -⟩ := hs.atExtra hd
  exact matchOk_extra hd hmax hlen hdist hbits hboth fun hph =>
    Nat.pos_of_ne_zero fun h => hx hph (BitVec.eq_of_toNat_eq h)

/-- What the last extra bit leaves. -/
theorem afterDistance_matchOk {s : State} {bit : Nat} {rg cd : Word} (hc : s.configOk) (hs : s.matchOk)
    (hd : s.dstate = .extra) (hp : s.phase ≠ .failed) (hbit : bit < 2)
    (hk : distOk (distanceWithBit s.mdist bit) s = true) :
    ((withDistance (distanceWithBit s.mdist bit) (s.xbits - 1) (s.setCoder rg cd)).goto .copy).matchOk := by
  obtain ⟨hdist, hbits, hboth⟩ := extraBit_bounds hc hs hd hp hbit
  obtain ⟨hmax, -, -⟩ := hs.bounded
  obtain ⟨hlen, -⟩ := hs.atExtra hd
  have hfits := (Nat.le_mul_of_pos_right _ (Nat.two_pow_pos _)).trans_lt hboth
  exact matchOk_copy rfl ⟨hmax, hfits, hbits⟩ (Nat.le_of_succ_le hlen) hdist hk

/-- `MLEN` counts down within its bounds. -/
theorem afterCopy_bounded {s : State} (b : Byte) (hs : s.matchOk) (hd : s.dstate = .copy) :
    ({ produced b s with mlen := s.mlen - 1 } : State).matchBounded := by
  obtain ⟨hmax, hmdist, hbits⟩ := hs.bounded
  obtain ⟨hlen, -⟩ := hs.atCopy hd
  refine ⟨?_, hmdist, hbits⟩
  show (s.mlen - 1).toNat ≤ 257
  rw [sub_one_toNat hlen]
  omega

/-- What a match byte with more to come leaves: the byte produced only makes room for the distance. -/
theorem afterCopy_matchOk {s : State} (b : Byte) (hs : s.matchOk) (hd : s.dstate = .copy)
    (ht : s.totalOut.toNat + 1 < 2 ^ 64) (hm : s.mlen - 1 ≠ 0) :
    ({ produced b s with mlen := s.mlen - 1 } : State).matchOk := by
  obtain ⟨-, hdist, htotal, hcap⟩ := hs.atCopy hd
  have hlen : 1 ≤ (s.mlen - 1).toNat := Nat.pos_of_ne_zero fun h => hm (BitVec.eq_of_toNat_eq h)
  refine matchOk_copy hd (afterCopy_bounded b hs hd) hlen hdist (distOk_eq_true.mpr ⟨?_, hcap⟩)
  show s.mdist.toNat ≤ (s.totalOut + 1).toNat
  rw [add_one_toNat ht]
  omega

theorem microStep_matchOk {s : State} (hc : s.configOk) (hb : s.bankOk) (hp : s.phase = .decoding) (hs : s.matchOk) :
    (microStep s).Leaves State.matchOk := by
  have hlive : s.phase ≠ .failed := by simp [hp]
  generalize hm : microStep s = m
  cases microStep_cases hm with
  | length d hd => exact afterLength_matchOk hb hs hd
  | slotNear d hd h0 hk =>
    exact matchOk_copy rfl (withDistance_one_bounded hs.bounded (Nat.zero_le _))
      (Nat.le_of_succ_le (hs.atSlot hd.at_dstate)) (Nat.le_refl 1) hk
  | slotBad d hd =>
    exact matchOk_slot hd.at_dstate (withDistance_one_bounded hs.bounded (Nat.zero_le _)) (hs.atSlot hd.at_dstate)
  | slotExtra d hd h0 => exact afterSlot_matchOk hc hb hs hd h0
  | extraBit hd bit rg cd hbit hx =>
    obtain ⟨-, hbit, -⟩ := decodeDirect_cases hbit
    exact afterExtraBit_matchOk hc hs hd.1 hlive hbit (ph := s.phase) fun _ => hx
  | extraBad hd bit rg cd hbit =>
    obtain ⟨-, hbit, -⟩ := decodeDirect_cases hbit
    exact afterExtraBit_matchOk hc hs hd.1 hlive hbit (ph := .failed) fun h => absurd rfl h
  | extraDone hd bit rg cd hbit hx hk =>
    obtain ⟨-, hbit, -⟩ := decodeDirect_cases hbit
    exact afterDistance_matchOk hc hs hd.1 hlive hbit hk
  | copied hd ho ht hlen => exact afterCopy_matchOk _ hs hd ht hlen
  | copiedLast hd =>
    exact matchOk_of_bounded (afterCopy_bounded (s.winRead s.copyPos) hs hd) (by simp) (by simp) (by simp)
  | ctrlLit | ctrlMatch | ctrlEos | literal | emitted | csumDone | loadedLast | tailDone =>
    exact matchOk_of_bounded hs.bounded (by simp) (by simp) (by simp)
  | csumBit hd | csumBad hd =>
    exact matchOk_of_bounded hs.bounded (by simp [hd.1]) (by simp [hd.1]) (by simp [hd.1])
  | loaded | renormalised => exact hs
  | truncated | noSymbol | noBit | badFirstByte | tailBad => exact matchOk_setPhase hs hlive .failed
  | needsInput | needsOutput => exact matchOk_setPhase hs hlive _
  | overflow | ended => trivial

/-! ### The stored checksum -/

/-- The clauses of `State.storedOk` that `State.verified` leaves (`10_state.md` R39, R40). -/
def State.storedBounded (s : State) : Prop :=
  s.csumCnt.toNat ≤ 32
  ∧ (s.dstate = .csum →
    s.csumStored.toNat < 2 ^ (32 - s.csumCnt.toNat) ∧ (s.phase ≠ .failed → 1 ≤ s.csumCnt.toNat))

theorem State.storedOk_iff {s : State} : s.storedOk ↔ s.storedBounded ∧ s.verified :=
  ⟨fun ⟨hcnt, hverified, hcsum⟩ => ⟨⟨hcnt, hcsum⟩, hverified⟩,
    fun ⟨⟨hcnt, hcsum⟩, hverified⟩ => ⟨hcnt, hverified, hcsum⟩⟩

theorem storedBounded_of_dstate {s : State} (hcnt : s.csumCnt.toNat ≤ 32) (hd : s.dstate ≠ .csum) :
    s.storedBounded :=
  ⟨hcnt, fun h => absurd h hd⟩

/-- A session that has not failed may change its phase. -/
theorem storedBounded_setPhase {s : State} (hs : s.storedBounded) (hp : s.phase ≠ .failed) (p : Phase) :
    (s.setPhase p).storedBounded := by
  obtain ⟨hcnt, hcsum⟩ := hs
  refine ⟨hcnt, fun hd => ?_⟩
  obtain ⟨hstored, hrunning⟩ := hcsum hd
  exact ⟨hstored, fun _ => hrunning hp⟩

/-- One more stored-checksum bit takes the room that one bit fewer to come leaves. -/
theorem storedBit_bounds {s : State} {bit : Nat} (hs : s.storedBounded) (hd : s.dstate = .csum)
    (hp : s.phase ≠ .failed) (hbit : bit < 2) :
    (s.csumCnt - 1).toNat ≤ 32
    ∧ (storedWithBit s.csumStored bit).toNat < 2 ^ (32 - (s.csumCnt - 1).toNat) := by
  obtain ⟨hcnt, hcsum⟩ := hs
  obtain ⟨hstored, hrunning⟩ := hcsum hd
  have hpos := hrunning hp
  have hroom : 2 ^ (32 - s.csumCnt.toNat) ≤ 2 ^ 31 := Nat.pow_le_pow_right (by decide) (by omega)
  have hmore : 32 - (s.csumCnt.toNat - 1) = 32 - s.csumCnt.toNat + 1 := by omega
  rw [sub_one_toNat hpos, storedWithBit_toNat (hstored.trans_le hroom) hbit, hmore, Nat.pow_succ]
  omega

/-- What a stored-checksum bit leaves where it stays in CSUM, running on or failed at the comparison. -/
theorem withStoredBit_bounded {s : State} {bit : Nat} {rg cd : Word} (hs : s.storedBounded) (hd : s.dstate = .csum)
    (hp : s.phase ≠ .failed) (hbit : bit < 2) {ph : Phase} (hx : ph ≠ .failed → s.csumCnt - 1 ≠ 0) :
    ((withStoredBit bit s (s.setCoder rg cd)).setPhase ph).storedBounded := by
  obtain ⟨hcnt, hstored⟩ := storedBit_bounds hs hd hp hbit
  exact ⟨hcnt, fun _ => ⟨hstored, fun hph => Nat.pos_of_ne_zero fun h => hx hph (BitVec.eq_of_toNat_eq h)⟩⟩

theorem microStep_storedBounded {s : State} (hp : s.phase = .decoding) (hs : s.storedBounded) :
    (microStep s).Leaves State.storedBounded := by
  have hlive : s.phase ≠ .failed := by simp [hp]
  generalize hm : microStep s = m
  cases microStep_cases hm with
  | ctrlEos => exact ⟨Nat.le_refl 32, fun _ => ⟨Nat.one_pos, fun _ => Nat.succ_pos 31⟩⟩
  | csumBit hd bit rg cd hbit hx =>
    obtain ⟨-, hbit, -⟩ := decodeDirect_cases hbit
    exact withStoredBit_bounded hs hd.1 hlive hbit (ph := s.phase) fun _ => hx
  | csumBad hd bit rg cd hbit =>
    obtain ⟨-, hbit, -⟩ := decodeDirect_cases hbit
    exact withStoredBit_bounded hs hd.1 hlive hbit (ph := .failed) fun h => absurd rfl h
  | csumDone hd bit rg cd hbit =>
    obtain ⟨-, hbit, -⟩ := decodeDirect_cases hbit
    exact storedBounded_of_dstate (storedBit_bounds hs hd.1 hlive hbit).1 (by simp)
  | loaded | renormalised | extraBit | copied => exact hs
  | truncated | noSymbol | noBit | badFirstByte | tailBad | slotBad | extraBad =>
    exact storedBounded_setPhase hs hlive .failed
  | needsInput | needsOutput => exact storedBounded_setPhase hs hlive _
  | overflow | ended => trivial
  | _ => exact storedBounded_of_dstate hs.1 (by simp)

theorem microStep_storedOk {s : State} (hp : s.phase = .decoding) (hs : s.storedOk) :
    (microStep s).Leaves State.storedOk := by
  obtain ⟨hbounded, hverified⟩ := State.storedOk_iff.mp hs
  exact ((microStep_storedBounded hp hbounded).and (microStep_verified s hverified)).imp
    fun _ => State.storedOk_iff.mpr

/-! ### `PHASE` -/

/-- A running STEP has no error and is not past its end. -/
theorem State.phaseOk.running {s : State} (hs : s.phaseOk) (hp : s.phase = .decoding) :
    s.err = 0 ∧ s.dstate ≠ .done := by
  obtain ⟨hdone, hfailed, -⟩ := hs
  refine ⟨?_, fun hd => ?_⟩
  · by_contra he
    simp [hp] at hfailed
    exact he hfailed
  · simp [hp, hd] at hdone

theorem phaseOk_decoding {s : State} (hp : s.phase = .decoding) (he : s.err = 0) (hd : s.dstate ≠ .done) :
    s.phaseOk := by
  simp [State.phaseOk, hp, he, hd]

/-- Failure entry leaves one of the five codes (`60_exceptions.md` R311). -/
theorem phaseOk_failureEntry {s : State} {c : Status} (hc : c.isFailure) (hd : s.dstate ≠ .done) :
    (failureEntry c s).phaseOk := by
  rcases hc with rfl | rfl | rfl | rfl | rfl <;>
    simp [State.phaseOk, failureEntry, Status.code, hd]

/-- A suspension for input stands where a byte of the stream is due. -/
theorem phaseOk_needInput {s : State} (he : s.err = 0) (hd : s.dstate = .rcInit ∨ s.dstate.decodes) :
    (s.setPhase .needInput).phaseOk := by
  rcases hd with hd | hd | hd | hd | hd | hd | hd | hd <;> simp [State.phaseOk, he, hd]

/-- A suspension for room stands where a byte is to be produced. -/
theorem phaseOk_needOutputSpace {s : State} (he : s.err = 0) (hd : s.dstate = .emit ∨ s.dstate = .copy) :
    (s.setPhase .needOutputSpace).phaseOk := by
  rcases hd with hd | hd <;> simp [State.phaseOk, he, hd]

theorem phaseOk_success {s : State} (he : s.err = 0) : ((s.goto .done).setPhase .success).phaseOk := by
  simp [State.phaseOk, he]

theorem microStep_phaseOk {s : State} (hp : s.phase = .decoding) (hs : s.phaseOk) :
    (microStep s).Leaves State.phaseOk := by
  obtain ⟨he, hlive⟩ := hs.running hp
  generalize hm : microStep s = m
  cases microStep_cases hm with
  | truncated | badFirstByte | noSymbol | noBit | slotBad | extraBad | csumBad | tailBad =>
    exact phaseOk_failureEntry (by decide) hlive
  | needsInput hd => exact phaseOk_needInput he (hd.imp_right And.left)
  | needsOutput hd => exact phaseOk_needOutputSpace he hd
  | tailDone => exact phaseOk_success he
  | loaded | renormalised | extraBit | copied | csumBit => exact phaseOk_decoding hp he hlive
  | overflow | ended => trivial
  | _ => exact phaseOk_decoding hp he (by simp)

/-! ### The cursor -/

/-- The clause of `State.cursorOk` about a running STEP (`44_host_commands.md` R267). -/
def State.cursorBounded (s : State) : Prop := s.ipos ≤ s.input.length ∧ s.out.length ≤ s.ocap

/-- A byte is consumed only where one is there. -/
theorem takeByte_cursorBounded {s : State} (hs : s.cursorBounded) (ha : s.inAvail = true) :
    s.takeByte.cursorBounded := by
  obtain ⟨-, hout⟩ := hs
  exact ⟨by simpa [State.inAvail] using ha, hout⟩

/-- A byte is produced only where `OUT` has room. -/
theorem produced_cursorBounded {s : State} (b : Byte) (hs : s.cursorBounded) (ho : s.outAvail = true) :
    (produced b s).cursorBounded := by
  obtain ⟨hin, -⟩ := hs
  have hroom : s.out.length < s.ocap := by simpa [State.outAvail] using ho
  exact ⟨hin, by simpa using hroom⟩

theorem microStep_cursorBounded {s : State} (hs : s.cursorBounded) : (microStep s).Leaves State.cursorBounded := by
  generalize hm : microStep s = m
  cases microStep_cases hm with
  | badFirstByte hd ha | loaded hd ha | loadedLast hd ha | renormalised hd hn ha =>
    exact takeByte_cursorBounded (s := s) hs ha
  | emitted hd ho | copied hd ho | copiedLast hd ho => exact produced_cursorBounded (s := s) _ hs ho
  | overflow | ended => trivial
  | _ => exact hs

end Sys2Proof.Machine
end

section
/-! CLAIM. O3: every step of the machine keeps the invariant (`41_model_bank.md` R166, `40_range_decoder.md` R139,
`10_state.md` R29-R47, `42_history_window.md` R190, `43_decode_driver.md` R222, R224). -/

namespace Sys2Proof.Machine

/-! ### Runs of the driver -/

/-- What a micro-step keeps in any phase: the invariant, with the cursor within its bounds. -/
def State.live (s : State) : Prop := Memory.wf s.win = true ∧ s.cursorBounded ∧ s.sessionOk

/-- The invariant while a STEP runs. -/
theorem State.Inv.live {s : State} (hs : s.Inv) (hp : s.phase = .decoding) : s.live := by
  obtain ⟨hwin, hcursor, hsession⟩ := hs
  rw [State.cursorOk, if_pos hp] at hcursor
  exact ⟨hwin, hcursor, hsession (by simp [hp])⟩

theorem State.live.inv {s : State} (hs : s.live) (hp : s.phase = .decoding) : s.Inv := by
  obtain ⟨hwin, hcursor, hsession⟩ := hs
  exact ⟨hwin, by rwa [State.cursorOk, if_pos hp], fun _ => hsession⟩

theorem microStep_sessionOk {s : State} (hp : s.phase = .decoding) (hs : s.sessionOk) :
    (microStep s).Leaves State.sessionOk := by
  obtain ⟨hconfig, hbank, hcoder, hmatch, hstored, hadler, hwindow, hphase⟩ := hs
  exact (microStep_configOk hconfig).and <| (microStep_bankOk hconfig hbank).and <|
    (microStep_coderOk hconfig hbank hcoder).and <| (microStep_matchOk hconfig hbank hp hmatch).and <|
    (microStep_storedOk hp hstored).and <| (microStep_adlerOk hadler).and <| (microStep_windowOk hwindow).and <|
    microStep_phaseOk hp hphase

theorem microStep_live {s : State} (hp : s.phase = .decoding) (hs : s.live) : (microStep s).Leaves State.live := by
  obtain ⟨hwin, hcursor, hsession⟩ := hs
  exact (microStep_winCanonical hwin).and <| (microStep_cursorBounded hcursor).and <| microStep_sessionOk hp hsession

/-- A micro-step that continues leaves the STEP running. -/
theorem microStep_cont_phase {s t : State} (h : microStep s = .cont t) : t.phase = s.phase := by
  cases microStep_cases h <;> rfl

theorem microAfter_live {k : Nat} {s t : State} (hp : s.phase = .decoding) (hs : s.live)
    (h : microAfter k s = some t) : t.phase = .decoding ∧ t.live := by
  induction k generalizing s with
  | zero => cases h; exact ⟨hp, hs⟩
  | succ k ih =>
    obtain ⟨u, hu, h⟩ := microAfter_succ_cases h
    have hlive := microStep_live hp hs
    rw [hu] at hlive
    exact ih ((microStep_cont_phase hu).trans hp) hlive h

/-- The end of a STEP leaves the cursor empty, in whatever phase. -/
theorem cursorOk_of_closed {s : State} (h : s.cursorClosed) : s.cursorOk := by
  obtain ⟨hinput, hipos, hout, hocap, hfinal⟩ := h
  rw [State.cursorOk]
  split
  · simp [hipos, hout]
  · exact ⟨hinput, hipos, hout, hocap, hfinal⟩

theorem endStep_inv {s : State} (hs : s.live) (c : Status) : (endStep c s).Inv := by
  obtain ⟨hwin, -, hsession⟩ := hs
  exact ⟨hwin, cursorOk_of_closed ⟨rfl, rfl, rfl, rfl, rfl⟩, fun _ => hsession⟩

/-- Closing a micro-step of a running STEP. -/
theorem closeMicro_microStep_inv {s t : State} (hp : s.phase = .decoding) (hs : s.live)
    (h : closeMicro (microStep s) = .next t) : t.Inv := by
  have hlive := microStep_live hp hs
  rcases closeMicro_next h with hm | ⟨c, u, hm, rfl⟩ <;> rw [hm] at hlive
  · exact hlive.inv ((microStep_cont_phase hm).trans hp)
  · exact endStep_inv hlive c

/-- Closing a run of a running STEP. -/
theorem RunOutcome.closeMicro_inv {s t : State} {m : Micro} (hrun : RunOutcome s m) (hp : s.phase = .decoding)
    (hs : s.live) (h : closeMicro m = .next t) : t.Inv := by
  cases hrun with
  | reached hu =>
    cases h
    obtain ⟨hp, hlive⟩ := microAfter_live hp hs hu
    exact hlive.inv hp
  | ended hu hm =>
    subst hm
    obtain ⟨hp, hlive⟩ := microAfter_live hp hs hu
    exact closeMicro_microStep_inv hp hlive h
  | outrun => cases h

/-! ### Items -/

/-- An item runs only inside a STEP, and there it is a run of the driver. -/
theorem runItem_inv {i : Instr} {s t : State} (hs : s.Inv) (h : runItem i s = .next t) : t.Inv := by
  by_cases hp : s.phase = .decoding
  · obtain ⟨m, hrun, hm⟩ := runItem_next h
    exact hrun.closeMicro_inv hp (hs.live hp) hm
  · rw [runItem_of_not_read fun m hm => hp (readItem_boundary hm).1] at h
    cases h

/-- The item that is read is a stream item, which `exec` runs as one. -/
theorem exec_itemRead (s u : State) : exec u.itemRead s = runItem u.itemRead s := by
  simp only [State.itemRead]
  split <;> rfl

theorem streamStep_inv {s t : State} (hp : s.phase = .decoding) (hs : s.Inv) (h : streamStep s = .next t) :
    t.Inv := by
  simp only [streamStep] at h
  split at h
  · rename_i i m hread
    obtain ⟨u, rfl⟩ : ∃ u, i = State.itemRead u := by
      rcases readItem_cases hread with ⟨u, -, hu, -⟩ | ⟨c, u, -, hu, -⟩ <;> exact ⟨u, hu⟩
    rw [exec_itemRead] at h
    exact runItem_inv hs h
  · exact closeMicro_microStep_inv hp (hs.live hp) h

/-! ### Host commands -/

/-- A result returned is outside the invariant. -/
theorem respond_inv {s : State} (hs : s.Inv) (r : Response) : (s.respond r).Inv := hs

/-- So is a request taken. -/
theorem takeRequest_inv {s : State} (hs : s.Inv) : s.takeRequest.Inv := hs

theorem State.Inv.cursorClosed {s : State} (hs : s.Inv) (hp : s.phase ≠ .decoding) : s.cursorClosed := by
  obtain ⟨-, hcursor, -⟩ := hs
  rwa [State.cursorOk, if_neg hp] at hcursor

/-- In UNINIT nothing is asked of the registers. -/
theorem inv_of_uninit {s : State} (hwin : s.win = []) (hc : s.cursorClosed) (hp : s.phase = .uninit) : s.Inv :=
  ⟨by rw [hwin]; rfl, cursorOk_of_closed hc, fun h => absurd hp h⟩

theorem positive_initialTable (n : Nat) : positive (Config.initialTable n) = true := by
  simp [positive, Config.initialTable, Config.initFreq]

/-- The initial table of a model meets the bounds of every rate class. -/
theorem modelOk_initialTable {n : Nat} (rate : Nat) (hn : n ≤ 1024) : modelOk rate n (Config.initialTable n) :=
  ⟨length_initialTable n, positive_initialTable n, (total_replicate_one n).trans_le (hn.trans (le_tmax rate))⟩

theorem configOk_of_paramValid {p : Word} (h : paramValid p = true) (s : State) : (sessionReset p s).configOk := by
  simp only [paramValid, Bool.and_eq_true, decide_eq_true_eq] at h
  obtain ⟨⟨⟨-, hmin⟩, hmax⟩, hrate⟩ := h
  exact ⟨hmin, hmax, hrate⟩

/-- A session just started (`44_host_commands.md` R263). -/
theorem sessionReset_inv {p : Word} {s : State} (hvalid : paramValid p = true) (hc : s.cursorClosed) :
    (sessionReset p s).Inv := by
  have hconfig := configOk_of_paramValid hvalid s
  have hbank : (sessionReset p s).bankOk := by
    obtain ⟨-, hmax, -⟩ := hconfig
    exact ⟨modelOk_initialTable _ (by decide), modelOk_initialTable _ (by decide), modelOk_initialTable _ (by decide),
      modelOk_initialTable _ ((Nat.succ_le_succ hmax).trans (by decide))⟩
  refine ⟨rfl, cursorOk_of_closed hc, fun _ => ⟨hconfig, hbank, ?_, ?_, ?_, ?_, ?_, ?_⟩⟩
  · exact ⟨fun _ => ⟨rfl, Nat.succ_pos 4, Nat.one_pos⟩, fun h => absurd rfl h⟩
  · exact matchOk_of_bounded ⟨Nat.zero_le _, Nat.two_pow_pos _, Nat.zero_le _⟩ (by simp) (by simp) (by simp)
  · exact State.storedOk_iff.mpr
      ⟨storedBounded_of_dstate (Nat.zero_le _) (by simp), verified_of_dstate (by simp) (by simp)⟩
  · exact ⟨by rw [sessionReset_adlerA]; decide, by rw [sessionReset_adlerB]; decide⟩
  · simp [State.windowOk]
  · simp [State.phaseOk]

theorem startSession_inv {p : Word} {s t : State} (hs : s.Inv) (hp : s.phase ≠ .decoding)
    (h : startSession p s = .next t) : t.Inv := by
  simp only [startSession] at h
  split at h <;> cases h
  · exact respond_inv (sessionReset_inv ‹_› (hs.cursorClosed hp)) _
  · exact respond_inv hs _

theorem execReinit_inv {p : Word} {s t : State} (hs : s.Inv) (hp : s.phase ≠ .decoding)
    (h : execReinit p s = .next t) : t.Inv := by
  simp only [execReinit] at h
  split at h
  · cases h; exact respond_inv hs _
  · exact startSession_inv hs hp h

theorem execDeinit_inv {s t : State} (hs : s.Inv) (hp : s.phase ≠ .decoding) (h : execDeinit s = .next t) :
    t.Inv := by
  simp only [execDeinit] at h
  split at h <;> cases h
  · exact respond_inv hs _
  · exact inv_of_uninit rfl (hs.cursorClosed hp) rfl

/-- The start of a STEP: the session goes on where it was suspended. -/
theorem startStep_live {s : State} (hs : s.Inv) (hp : s.phase.resumable) (f : Bool) (inp : List Byte) (oc : Nat) :
    (startStep f inp oc s).live := by
  obtain ⟨hwin, -, hsession⟩ := hs
  have hinit : s.phase ≠ .uninit ∧ s.phase ≠ .failed ∧ s.phase ≠ .success := by
    rcases hp with hp | hp | hp <;> simp [hp]
  obtain ⟨huninit, hfailed, hsuccess⟩ := hinit
  obtain ⟨hconfig, hbank, hcoder, hmatch, hstored, hadler, hwindow, hdone, herr, -⟩ := hsession huninit
  obtain ⟨hbounded, hverified⟩ := State.storedOk_iff.mp hstored
  refine ⟨hwin, ⟨Nat.zero_le _, Nat.zero_le _⟩, hconfig, hbank, hcoder, ?_, ?_, hadler, hwindow, ?_⟩
  · exact matchOk_setPhase hmatch hfailed .decoding
  · exact State.storedOk_iff.mpr ⟨storedBounded_setPhase hbounded hfailed .decoding, hverified⟩
  · exact phaseOk_decoding rfl (by_contra fun he => hfailed (herr.mpr he)) fun hd => hsuccess (hdone.mpr hd)

theorem execStep_inv {f : Bool} {inp : List Byte} {oc : Nat} {s t : State} (hs : s.Inv) (hp : s.phase ≠ .decoding)
    (h : exec (.step f inp oc) s = .next t) : t.Inv := by
  by_cases hr : s.phase.resumable
  · rw [execStep_running hr] at h
    exact (runLoop_outcome _ _).closeMicro_inv rfl (startStep_live hs hr f inp oc) h
  · obtain ⟨r, rfl⟩ : ∃ r, t = s.respond r := by
      cases hph : s.phase with
      | decoding => exact absurd hph hp
      | ready | needInput | needOutputSpace => simp [Phase.resumable, hph] at hr
      | uninit | success | failed =>
        simp only [exec, execStep, hph] at h
        cases h
        exact ⟨_, rfl⟩
    exact respond_inv hs r

/-- ONESHOT leaves its session released, whatever its STEP came to. -/
theorem execOneshot_inv {p : Word} {src : List Byte} {cap : Nat} {want : Bool} {s t : State} (hs : s.Inv)
    (h : execOneshot p src cap want s = .next t) : t.Inv := by
  simp only [execOneshot] at h
  split at h
  · cases h; exact respond_inv hs _
  · split at h
    · split at h <;> cases h
      exact inv_of_uninit rfl ⟨rfl, rfl, rfl, rfl, rfl⟩ rfl
    · cases h; exact respond_inv hs _

/-- Between commands, whatever instruction is executed. -/
theorem exec_inv {i : Instr} {s t : State} (hs : s.Inv) (hp : s.phase ≠ .decoding) (h : exec i s = .next t) :
    t.Inv := by
  cases i with
  | version => cases h; exact respond_inv hs _
  | init p => exact startSession_inv hs hp h
  | reinit p => exact execReinit_inv hs hp h
  | deinit => exact execDeinit_inv hs hp h
  | step f inp oc => exact execStep_inv hs hp h
  | query q => obtain ⟨r, rfl⟩ := execQuery_next h; exact respond_inv hs r
  | reservedOp67 w => cases h; exact respond_inv hs _
  | reservedOp8F w => cases h; exact respond_inv hs _
  | lit b => exact runItem_inv hs h
  | matchItem l d => exact runItem_inv hs h
  | eos x => exact runItem_inv hs h
  | oneshot p src cap want => exact execOneshot_inv hs h

theorem hostStep_inv {s t : State} (hp : s.phase ≠ .decoding) (hs : s.Inv) (h : hostStep s = .next t) : t.Inv := by
  simp only [hostStep] at h
  split at h
  · cases h; exact hs
  · split at h
    · exact exec_inv (takeRequest_inv hs) hp h
    · cases h; exact respond_inv (takeRequest_inv hs) _

/-- Settles O3: inside a STEP a step closes a run of micro-steps, each of which keeps a live session; between commands
it is one of the host's. -/
theorem everyStepKeepsInvariant : Obligations.EveryStepKeepsInvariant := by
  intro s t hs h
  by_cases hp : s.phase = .decoding
  · exact streamStep_inv hp hs (step_decoding hp ▸ h)
  · exact hostStep_inv hp hs (step_between hp ▸ h)

end Sys2Proof.Machine
end

section
/-! SUPPORT. What a STEP adds to the history: `State.history` is the part of the state that Produce writes, with the
window's size. Every micro-step leaves it alone or produces one byte, so a predicate of the history that Produce keeps
holds at the end of a STEP that starts with it (`execStep_history`; `42_history_window.md` R191). -/

namespace Sys2Proof.Machine

/-- The window and its size class, the count, the checksum and the output of the running STEP. -/
structure History where
  dictLog2 : BitVec 5
  win : List Host.Cell
  totalOut : BitVec 64
  adlerA : BitVec 16
  adlerB : BitVec 16
  out : List Byte

/-- The history of a state, read off its registers. -/
def State.history (s : State) : History where
  dictLog2 := s.cfgDictLog2
  win := s.win
  totalOut := s.totalOut
  adlerA := s.adlerA
  adlerB := s.adlerB
  out := s.out

/-- EMIT and COPY produce a byte; no other micro-step touches the history. -/
theorem microStep_history (s : State) : (microStep s).Leaves fun t =>
    t.history = s.history ∨ ∃ b, s.totalOut.toNat + 1 < 2 ^ 64 ∧ t.history = (produced b s).history := by
  generalize hm : microStep s = m
  cases microStep_cases hm with
  | emitted hd ho ht | copied hd ho ht | copiedLast hd ho ht => exact .inr ⟨_, ht, rfl⟩
  | overflow | ended => trivial
  | _ => exact .inl rfl

/-- Results are returned at the end of a command, not by a micro-step. -/
theorem microStep_responses (s : State) : (microStep s).Leaves fun t => t.responses = s.responses := by
  generalize hm : microStep s = m
  cases microStep_cases hm with
  | overflow | ended => trivial
  | _ => rfl

/-- The induction over a STEP that runs the loop: what holds of the history at its start and is kept by Produce holds in
the state `v` it stops in, whose output is the one returned. -/
theorem execStep_history {P : History → Prop}
    (hP : ∀ b u, u.totalOut.toNat + 1 < 2 ^ 64 → P u.history → P (produced b u).history)
    {s t : State} {r : Response} {f : Bool} {inp : List Byte} {oc : Nat} (hp : s.phase.resumable)
    (hstart : P (startStep f inp oc s).history) (h : exec (.step f inp oc) s = .next t)
    (hr : t.responses = s.responses ++ [r]) : ∃ c v, t = endStep c v ∧ r.produced = v.out ∧ P v.history := by
  have hstep (u : State) (hu : P u.history ∧ u.responses = s.responses) :
      (microStep u).Leaves fun t => P t.history ∧ t.responses = s.responses := by
    obtain ⟨hu, hresponses⟩ := hu
    refine ((microStep_history u).and (microStep_responses u)).imp ?_
    rintro t ⟨ht | ⟨b, hb, ht⟩, hsame⟩ <;> refine ⟨?_, hsame.trans hresponses⟩ <;> rw [ht]
    · exact hu
    · exact hP b u hb hu
  obtain ⟨k, u, c, v, hu, hstop, rfl⟩ := execStep_running_next hp h
  have hv := hstep u (microAfter_keeps hstep ⟨hstart, rfl⟩ hu)
  rw [hstop] at hv
  obtain ⟨hv, hresponses⟩ := hv
  have hresult : stepResult c v = r := by simpa [hresponses] using hr
  exact ⟨c, v, rfl, by rw [← hresult]; rfl, hv⟩

end Sys2Proof.Machine
end

section
/-! CLAIM. O27: a STEP folds every produced byte into the checksum once, in order (`42_history_window.md` R191,
R192). -/

namespace Sys2Proof.Machine

theorem adlerFold_append (a b : BitVec 16) (xs ys : List Byte) :
    adlerFold a b (xs ++ ys) = adlerFold (adlerFold a b xs).1 (adlerFold a b xs).2 ys := by
  induction xs generalizing a b with
  | nil => rfl
  | cons x xs ih => exact ih _ _

/-- The checksum is the one of `a`, `b` with the output so far folded in. -/
def History.foldedFrom (a b : BitVec 16) (h : History) : Prop := (h.adlerA, h.adlerB) = adlerFold a b h.out

/-- Produce folds in the byte it puts out. -/
theorem produced_foldedFrom {a b : BitVec 16} (x : Byte) {s : State} (hs : s.history.foldedFrom a b) :
    (produced x s).history.foldedFrom a b := by
  have hfold : adlerFold a b s.out = (s.adlerA, s.adlerB) := Eq.symm hs
  show (adlerNextA s.adlerA x, adlerNextB s.adlerA s.adlerB x) = adlerFold a b (s.out ++ [x])
  rw [adlerFold_append, hfold]
  rfl

/-- Settles O27: the output of a STEP starts empty, and each Produce adds one byte to it and to the checksum. -/
theorem stepFoldsChecksum : Obligations.StepFoldsChecksum := by
  intro s t r f inp oc hp h hr
  obtain ⟨c, v, rfl, hproduced, hv⟩ :=
    execStep_history (P := History.foldedFrom s.adlerA s.adlerB) (fun x _ _ => produced_foldedFrom x) hp rfl h hr
  rw [hproduced]
  exact hv

end Sys2Proof.Machine
end

section
/-! CLAIM. O29: after a STEP the window holds every byte that is among the last `CAP` (`42_history_window.md` R190). -/

namespace Sys2Proof.Machine

/-- Byte number `k` of the session, where a STEP from `s` has put out `out` so far: one of `out`, or one produced before
the STEP as it read at its start. -/
def State.byteNumber (s : State) (out : List Byte) (k : Nat) : Option Byte :=
  if k < s.totalOut.toNat then Memory.read s.win (k % s.cap) else out[k - s.totalOut.toNat]?

theorem byteNumber_before {s : State} {k : Nat} (out : List Byte) (hk : k < s.totalOut.toNat) :
    s.byteNumber out k = Memory.read s.win (k % s.cap) := if_pos hk

theorem byteNumber_output (s : State) (out : List Byte) (j : Nat) :
    s.byteNumber out (s.totalOut.toNat + j) = out[j]? := by
  simp [State.byteNumber]

/-- A byte put out leaves those before it as they are. -/
theorem byteNumber_append {s : State} {out : List Byte} {k : Nat} (b : Byte)
    (hk : k < s.totalOut.toNat + out.length) : s.byteNumber (out ++ [b]) k = s.byteNumber out k := by
  unfold State.byteNumber
  split
  · rfl
  · exact List.getElem?_append_left (by omega)

/-- The history of a STEP from `s` whose window holds the last `CAP` bytes, each at its number mod `CAP`. -/
def History.recalls (s : State) (h : History) : Prop :=
  h.dictLog2 = s.cfgDictLog2 ∧ Memory.wf h.win = true ∧ h.totalOut.toNat = s.totalOut.toNat + h.out.length
  ∧ ∀ k, k < h.totalOut.toNat → h.totalOut.toNat ≤ k + s.cap →
      Memory.read h.win (k % s.cap) = s.byteNumber h.out k

theorem history_recalls_iff {s u : State} : u.history.recalls s ↔
    u.cfgDictLog2 = s.cfgDictLog2 ∧ Memory.wf u.win = true
    ∧ u.totalOut.toNat = s.totalOut.toNat + u.out.length
    ∧ ∀ k, k < u.totalOut.toNat → u.totalOut.toNat ≤ k + s.cap →
        Memory.read u.win (k % s.cap) = s.byteNumber u.out k := Iff.rfl

/-- Fewer than `cap` numbers apart, two bytes stand at different indices. -/
theorem mod_ne_of_lt_add {k n cap : Nat} (hlt : k < n) (hcap : n < k + cap) : k % cap ≠ n % cap := by
  intro h
  have hzero := Nat.sub_mod_eq_zero_of_mod_eq h.symm
  rw [Nat.mod_eq_of_lt (by omega)] at hzero
  omega

/-- Produce overwrites the byte that is then no longer among the last `CAP`, and no other. -/
theorem produced_recalls {s u : State} (b : Byte) (ht : u.totalOut.toNat + 1 < 2 ^ 64) (hu : u.history.recalls s) :
    (produced b u).history.recalls s := by
  obtain ⟨hdict, hwf, hcount, hread⟩ := history_recalls_iff.mp hu
  have hpos : u.writePos = u.totalOut.toNat % s.cap := by rw [State.writePos, State.cap, State.cap, hdict]
  rw [history_recalls_iff, produced_totalOut, add_one_toNat ht, produced_win, produced_out, hpos]
  refine ⟨hdict, Memory.wf_write _ _ _ hwf, by simp [hcount, Nat.add_assoc], fun k hk hlast => ?_⟩
  rcases Nat.lt_succ_iff_lt_or_eq.mp hk with hold | rfl
  · rw [Memory.read_write_other _ _ (mod_ne_of_lt_add hold hlast) hwf, byteNumber_append b (hcount ▸ hold)]
    exact hread k hold (Nat.le_of_succ_le hlast)
  · rw [Memory.read_write_same, hcount, byteNumber_output, List.getElem?_concat_length]

/-- The start of a STEP recalls what the window holds. -/
theorem startStep_recalls {s : State} (hwf : Memory.wf s.win = true) (f : Bool) (inp : List Byte) (oc : Nat) :
    (startStep f inp oc s).history.recalls s :=
  ⟨rfl, hwf, rfl, fun _ hk _ => (byteNumber_before [] hk).symm⟩

/-- Every byte produced has been written at its number mod `CAP`. -/
theorem read_ne_none_of_windowOk {s : State} (hs : s.windowOk) {k : Nat} (hk : k < s.totalOut.toNat) :
    Memory.read s.win (k % s.cap) ≠ none := by
  rw [State.windowOk, List.range_eq_range'] at hs
  have hlt : k % s.cap < min s.totalOut.toNat s.cap :=
    lt_min ((Nat.mod_le _ _).trans_lt hk) (Nat.mod_lt _ (Nat.two_pow_pos _))
  obtain ⟨b, hb⟩ := Memory.read_of_indices s.win _ 0 hs (k % s.cap) (Nat.zero_le _) (by rwa [Nat.zero_add])
  simp [hb]

/-- Settles O29: each Produce of the STEP keeps the last `CAP` bytes in the window, those before the STEP among them,
which the invariant says were written. -/
theorem windowHoldsProducedBytes : Obligations.WindowHoldsProducedBytes := by
  intro s t r f inp oc hinv hp h hr
  obtain ⟨hwf, -, hsession⟩ := hinv
  obtain ⟨-, -, -, -, -, -, hwindow, -⟩ := hsession (by rcases hp with hp | hp | hp <;> simp [hp])
  obtain ⟨c, v, rfl, hproduced, hv⟩ :=
    execStep_history (P := History.recalls s) (fun b _ => produced_recalls b) hp
      (startStep_recalls hwf f inp oc) h hr
  obtain ⟨-, -, hcount, hread⟩ := history_recalls_iff.mp hv
  rw [hproduced]
  refine ⟨fun j hj hlast => ?_, fun k hk hlast => ⟨?_, read_ne_none_of_windowOk hwindow hk⟩⟩
  · have hnumber : s.totalOut.toNat + j < v.totalOut.toNat := by omega
    refine (hread _ hnumber hlast).trans ?_
    rw [byteNumber_output, List.getD_eq_getElem _ _ hj]
    exact List.getElem?_eq_getElem hj
  · have hnumber : k < v.totalOut.toNat := by omega
    exact (hread k hnumber hlast).trans (byteNumber_before _ hk)

end Sys2Proof.Machine
end

section
/-! SUPPORT. The converse of `microStep_cases`: the conditions of a case decide the micro-step, so that the case is the
rule by which a micro-step is computed (`microStep_eq_iff`; `43_decode_driver.md` R211-R223). -/

namespace Sys2Proof.Machine

/-- An adaptive decode, from DecodeFreq's answer (`40_range_decoder.md` R136). -/
theorem decodeModel_of_decodeFreq {c : Ctx} {s : State} {d : Decoded}
    (h : decodeFreq (s.freq.get c) s.range s.code = some d) : decodeModel c s = some (d.sym, afterSymbol c d s) := by
  simp only [decodeModel, h]

/-- A context's sub-state is one of those that decode. -/
theorem microStep_noSymbol {s : State} {c : Ctx} (hd : s.decodesAt c.dstate)
    (hf : decodeFreq (s.freq.get c) s.range s.code = none) : microStep s = raiseFail .corruptSymbol s := by
  obtain ⟨hd, hn⟩ := hd
  have hf := decodeModel_eq_none.mpr hf
  cases c with
  | ctrl => rw [microStep_ctrl hd hn, msCtrl, hf]
  | lit => rw [microStep_lit hd hn, msLit, hf]
  | len => rw [microStep_len hd hn, msLen, hf]
  | slot => rw [microStep_slot hd hn, msSlot, hf]

/-- Where a byte is due and there is none, the micro-step is NeedIn (`43_decode_driver.md` R212). -/
theorem microStep_needIn {s : State} (hd : s.dstate = .rcInit ∨ s.dstate.decodes ∧ s.needsNorm = true)
    (ha : s.inAvail = false) : microStep s = needIn s := by
  rcases hd with hd | ⟨hd, hn⟩
  · simp [microStep_rcInit hd, msRcInit, ha]
  · simp [microStep_norm hd hn, msNorm, ha]

/-- Where a byte is to be produced and there is no room. -/
theorem microStep_needOut {s : State} (hd : s.dstate = .emit ∨ s.dstate = .copy) (ho : s.outAvail = false) :
    microStep s = suspendOutput s := by
  rcases hd with hd | hd
  · simp [microStep_emit hd, msEmit, ho]
  · simp [microStep_copy hd, msCopy, ho]

theorem MicroStepCase.eq {s : State} {m : Micro} (h : MicroStepCase s m) : microStep s = m := by
  cases h with
  | truncated hd ha hf => simp [microStep_needIn hd ha, needIn, hf]
  | needsInput hd ha hf => simp [microStep_needIn hd ha, needIn, hf]
  | badFirstByte hd ha h0 hb => simp only [microStep_rcInit hd, msRcInit, ha, rcLoad, if_true, if_pos h0, if_neg hb, raiseFail]
  | loaded hd ha cd hl hn => simp only [microStep_rcInit hd, msRcInit, ha, hl, if_true, if_neg hn]
  | loadedLast hd ha cd hl hn => simp only [microStep_rcInit hd, msRcInit, ha, hl, if_true, if_pos hn]
  | renormalised hd hn ha => simp [microStep_norm hd hn, msNorm, ha]
  | noSymbol c hd hf => exact microStep_noSymbol hd hf
  | noBit hd hf =>
    rcases hd with ⟨hd, hn⟩ | ⟨hd, hn⟩
    · rw [microStep_extra hd hn, msExtra, hf]
    · rw [microStep_csum hd hn, msCsum, hf]
  | ctrlLit d hd hs =>
    rw [microStep_ctrl hd.1.1 hd.1.2, msCtrl, decodeModel_of_decodeFreq hd.2, hs]
    rfl
  | ctrlMatch d hd hs =>
    rw [microStep_ctrl hd.1.1 hd.1.2, msCtrl, decodeModel_of_decodeFreq hd.2, hs]
    rfl
  | ctrlEos d hd hs =>
    obtain ⟨n, hn⟩ := Nat.exists_eq_add_of_le' hs
    rw [microStep_ctrl hd.1.1 hd.1.2, msCtrl, decodeModel_of_decodeFreq hd.2, hn]
    rfl
  | literal d hd =>
    rw [microStep_lit hd.1.1 hd.1.2, msLit, decodeModel_of_decodeFreq hd.2]
  | length d hd =>
    rw [microStep_len hd.1.1 hd.1.2, msLen, decodeModel_of_decodeFreq hd.2]
  | slotNear d hd hs hk =>
    rw [microStep_slot hd.1.1 hd.1.2, msSlot, decodeModel_of_decodeFreq hd.2, hs]
    exact if_pos hk
  | slotBad d hd hs hk =>
    rw [microStep_slot hd.1.1 hd.1.2, msSlot, decodeModel_of_decodeFreq hd.2, hs]
    exact if_neg (ne_true_of_eq_false hk)
  | slotExtra d hd hs =>
    rw [microStep_slot hd.1.1 hd.1.2, msSlot, decodeModel_of_decodeFreq hd.2]
    exact if_neg hs
  | extraBit hd bit rg cd hb hx =>
    rw [microStep_extra hd.1 hd.2, msExtra, hb]
    exact if_neg hx
  | extraDone hd bit rg cd hb hx hk =>
    rw [microStep_extra hd.1 hd.2, msExtra, hb]
    exact (if_pos hx).trans (if_pos hk)
  | extraBad hd bit rg cd hb hx hk =>
    rw [microStep_extra hd.1 hd.2, msExtra, hb]
    exact (if_pos hx).trans (if_neg (ne_true_of_eq_false hk))
  | needsOutput hd ho => exact microStep_needOut hd ho
  | overflow hd ho ht =>
    rcases hd with hd | hd
    · simp only [microStep_emit hd, msEmit, ho, produce, if_neg ht, if_true]
    · simp only [microStep_copy hd, msCopy, ho, copyByte, produce, if_neg ht, if_true]
  | emitted hd ho ht => simp only [microStep_emit hd, msEmit, ho, produce, if_pos ht, if_true]
  | copied hd ho ht hm =>
    simp only [microStep_copy hd, msCopy, ho, copyByte, produce, if_pos ht, if_true, if_neg hm]
  | copiedLast hd ho ht hm =>
    simp only [microStep_copy hd, msCopy, ho, copyByte, produce, if_pos ht, if_true, if_pos hm]
  | csumBit hd bit rg cd hb hx =>
    rw [microStep_csum hd.1 hd.2, msCsum, hb]
    exact if_neg hx
  | csumBad hd bit rg cd hb hx he hk =>
    rw [microStep_csum hd.1 hd.2, msCsum, hb]
    exact (if_pos hx).trans (if_pos ⟨he, hk⟩)
  | csumDone hd bit rg cd hb hx hk =>
    rw [microStep_csum hd.1 hd.2, msCsum, hb]
    exact (if_pos hx).trans (if_neg fun h => h.2 (hk h.1))
  | tailDone hd hc => simp [microStep_tail hd.1 hd.2, msTail, rcSync, hc]
  | tailBad hd hc =>
    rw [microStep_tail hd.1 hd.2, msTail]
    exact if_neg (by simpa [rcSync] using hc)
  | ended hd => exact microStep_done hd

/-- A micro-step has the outcome of its case, and of no other. -/
theorem microStep_eq_iff {s : State} {m : Micro} : microStep s = m ↔ MicroStepCase s m :=
  ⟨microStep_cases, MicroStepCase.eq⟩

end Sys2Proof.Machine
end

section
/-! CLAIM. O33, O34: what a continuing micro-step leaves alone, and what a suspension and `finish` write
(`43_decode_driver.md` R210, R211). -/

namespace Sys2Proof.Machine

/-- No micro-step that continues writes the configuration, `ERR`, `PHASE`, the STEP's operands or the host's port. -/
theorem microStep_frame {s t : State} (h : microStep s = .cont t) :
    t.cfgDictLog2 = s.cfgDictLog2 ∧ t.cfgRate = s.cfgRate ∧ t.cfgCsumEn = s.cfgCsumEn ∧ t.err = s.err
      ∧ t.phase = s.phase ∧ t.input = s.input ∧ t.ocap = s.ocap ∧ t.final = s.final ∧ t.requests = s.requests
      ∧ t.responses = s.responses ∧ t.draws = s.draws := by
  cases microStep_cases h <;> exact ⟨rfl, rfl, rfl, rfl, rfl, rfl, rfl, rfl, rfl, rfl, rfl⟩

/-- Outside EMIT and COPY nothing is produced. -/
theorem microStep_history_frame {s t : State} (h : microStep s = .cont t) (he : s.dstate ≠ .emit)
    (hc : s.dstate ≠ .copy) :
    t.win = s.win ∧ t.totalOut = s.totalOut ∧ t.adlerA = s.adlerA ∧ t.adlerB = s.adlerB ∧ t.out = s.out := by
  cases microStep_cases h with
  | emitted hd => exact absurd hd he
  | copied hd | copiedLast hd => exact absurd hd hc
  | _ => exact ⟨rfl, rfl, rfl, rfl, rfl⟩

/-- EMIT and COPY decode nothing. -/
theorem microStep_coder_frame {s t : State} (h : microStep s = .cont t) (hd : s.dstate = .emit ∨ s.dstate = .copy) :
    t.range = s.range ∧ t.code = s.code ∧ t.ipos = s.ipos := by
  rcases hd with hd | hd
  · rw [microStep_emit hd] at h
    obtain ⟨-, hm⟩ | ⟨-, -, hm⟩ | ⟨-, -, hm⟩ := msEmit_cases s <;> cases hm.symm.trans h
    exact ⟨rfl, rfl, rfl⟩
  · rw [microStep_copy hd] at h
    obtain ⟨-, hm⟩ | ⟨-, -, hm⟩ | ⟨-, -, ⟨-, hm⟩ | ⟨-, hm⟩⟩ := msCopy_cases s <;> cases hm.symm.trans h
    · exact ⟨rfl, rfl, rfl⟩
    · exact ⟨rfl, rfl, rfl⟩

theorem afterSymbol_freq_other {s : State} {c c' : Ctx} {d : Decoded} (hd : s.symbolNext c d)
    (hc : s.dstate ≠ c'.dstate) : (afterSymbol c d s).freq.get c' = s.freq.get c' :=
  Bank.get_set_other _ _ fun h => hc (h ▸ hd.at_dstate)

/-- A model is updated only where its own symbol is decoded. -/
theorem microStep_freq_other {s t : State} {c : Ctx} (h : microStep s = .cont t) (hc : s.dstate ≠ c.dstate) :
    t.freq.get c = s.freq.get c := by
  cases microStep_cases h with
  | ctrlLit d hd | ctrlMatch d hd | ctrlEos d hd | literal d hd | length d hd | slotNear d hd | slotExtra d hd =>
    exact afterSymbol_freq_other hd hc
  | _ => rfl

/-- Settles O33: each part of the frame is one of the rules above. -/
theorem microStepFrame : Obligations.MicroStepFrame := fun _ _ h =>
  ⟨microStep_frame h, microStep_history_frame h, microStep_coder_frame h, microStep_freq_other (c := .ctrl) h,
    microStep_freq_other (c := .lit) h, microStep_freq_other (c := .len) h, microStep_freq_other (c := .slot) h⟩

/-- Settles O34: among the cases of a micro-step one suspends for input, one for room, and one finishes. -/
theorem suspensionWritesNothing : Obligations.SuspensionWritesNothing := by
  refine fun s t => ⟨fun h => ?_, fun h => ?_, fun h => ?_⟩ <;> cases microStep_cases h <;> rfl

end Sys2Proof.Machine
end

section
/-! CLAIM. O6, O20, O25, O26: what a step runs inside a STEP, and the STEPs that end at once (`43_decode_driver.md`
R211, R212, R217, R221, R225, R227). -/

namespace Sys2Proof.Machine

/-- Settles O6: a running STEP's step is `streamStep`, by what `readItem` answers. -/
theorem stepRunsStreamItem : Obligations.StepRunsStreamItem := by
  intro s hp
  rw [step_decoding hp]
  exact ⟨fun i m h => by simp only [streamStep, h], fun h => by simp only [streamStep, h]⟩

/-- Settles O20: STEP looks at `PHASE` first. -/
theorem stepInTerminalPhase : Obligations.StepInTerminalPhase := by
  intro s f inp oc
  constructor <;> intro hp <;> simp only [exec, execStep, hp] <;> rfl

/-- A STEP whose first micro-step stops ends there. -/
theorem execStep_of_stop {f : Bool} {inp : List Byte} {oc : Nat} {s t : State} {c : Status} (hp : s.phase.resumable)
    (h : microStep (startStep f inp oc s) = .stop c t) : exec (.step f inp oc) s = .next (endStep c t) := by
  rw [execStep_running hp, runStep, loopBound, runLoop_stop h]
  rfl

/-- Discarding the cursor of a STEP that has written only `ERR` and `PHASE` leaves the closed cursor there was. -/
theorem endStep_startStep {s : State} (hc : s.cursorClosed) (f : Bool) (inp : List Byte) (oc : Nat) (c : Status)
    (e : BitVec 8) (p : Phase) :
    endStep c { startStep f inp oc s with err := e, phase := p } =
      State.returning { s with err := e, phase := p } (statusResult (statusWord c.code)) := by
  obtain ⟨hinput, hipos, hout, hocap, hfinal⟩ := hc
  cases s
  subst hinput hipos hout hocap hfinal
  rfl

/-- Settles O25: the first micro-step is NeedIn. -/
theorem stepWithoutInput : Obligations.StepWithoutInput := by
  intro s oc hp hc hd
  have hstart (f : Bool) : microStep (startStep f [] oc s) = needIn (startStep f [] oc s) :=
    microStep_needIn (hd.imp_right fun ⟨hd, hr⟩ => ⟨hd, needsNorm_eq_true.mpr hr⟩) rfl
  exact ⟨(execStep_of_stop hp (hstart true)).trans (congrArg _ (endStep_startStep hc true [] oc .truncated _ _)),
    (execStep_of_stop hp (hstart false)).trans (congrArg _ (endStep_startStep hc false [] oc .needInput s.err _))⟩

/-- Settles O26: the first micro-step finds no room. -/
theorem stepWithoutRoom : Obligations.StepWithoutRoom := by
  intro s f inp hp hc hd
  have hstart : microStep (startStep f inp 0 s) = suspendOutput (startStep f inp 0 s) := microStep_needOut hd rfl
  exact (execStep_of_stop hp hstart).trans (congrArg _ (endStep_startStep hc f inp 0 .needOutputSpace s.err _))

end Sys2Proof.Machine
end

section
/-! CLAIM. O41, O42: the micro-steps that consume a byte of the stream (`43_decode_driver.md` R213, R214,
`40_range_decoder.md` R132, R134). -/

namespace Sys2Proof.Machine

theorem inAvail_eq_true {s : State} : s.inAvail = true ↔ s.ipos < s.input.length := by simp [State.inAvail]

theorem inAvail_eq_false {s : State} : s.inAvail = false ↔ ¬ s.ipos < s.input.length := by simp [State.inAvail]

theorem outAvail_eq_true {s : State} : s.outAvail = true ↔ s.out.length < s.ocap := by simp [State.outAvail]

theorem outAvail_eq_false {s : State} : s.outAvail = false ↔ ¬ s.out.length < s.ocap := by simp [State.outAvail]

/-- `CODE` with one more byte, whatever it held: its eight top bits drop out. -/
theorem codeWithByte_toNat_mod (x : Word) (b : Byte) :
    (codeWithByte x b).toNat = (x.toNat * 256 + b.toNat) % 2 ^ 32 := by
  have hb : (b.setWidth 32).toNat = b.toNat := BitVec.toNat_setWidth_of_le (by decide)
  have hx : x.toNat <<< 8 % 2 ^ 32 = (x.toNat % 2 ^ 24) <<< 8 := by
    rw [Nat.shiftLeft_eq, Nat.shiftLeft_eq]
    omega
  rw [codeWithByte, BitVec.toNat_or, BitVec.toNat_shiftLeft, hb, hx, ← Nat.shiftLeft_add_eq_or_of_lt b.isLt,
    Nat.shiftLeft_eq]
  omega

/-- Settles O41: every sub-state that decodes renormalises first, and with no byte at hand that is NeedIn. -/
theorem normConsumesOneByte : Obligations.NormConsumesOneByte := by
  intro s hd hr
  have hn : s.needsNorm = true := needsNorm_eq_true.mpr hr
  refine ⟨fun ha => ⟨rcNorm s, (MicroStepCase.renormalised hd hn (inAvail_eq_true.mpr ha)).eq, ?_, ?_, rfl⟩,
    fun ha hf => (MicroStepCase.truncated (.inr ⟨hd, hn⟩) (inAvail_eq_false.mpr ha) hf).eq,
    fun ha hf => (MicroStepCase.needsInput (.inr ⟨hd, hn⟩) (inAvail_eq_false.mpr ha) hf).eq⟩
  · exact shiftLeft_byte_toNat hr
  · exact codeWithByte_toNat_mod s.code s.nextByte

/-- An initial byte past the first: the count decides the sub-state that follows. -/
theorem microStep_laterByte {s : State} (hd : s.dstate = .rcInit) (hcnt : s.initCnt.toNat < 5)
    (ha : s.inAvail = true) (h0 : s.initCnt ≠ 0) :
    microStep s = .cont { s with
      ipos := s.ipos + 1, code := codeWithByte s.code s.nextByte, initCnt := s.initCnt + 1,
      dstate := if s.initCnt = 4 then .ctrl else .rcInit } := by
  have hl : rcLoad s = .cont { s.takeByte with code := codeWithByte s.code s.nextByte, initCnt := s.initCnt + 1 } := by
    simp only [rcLoad, if_neg h0]
  have hlast : (s.initCnt + 1).toNat = 5 ↔ s.initCnt = 4 := by
    rw [add_one_toNat (by omega), ← BitVec.toNat_inj]
    exact Nat.succ_inj
  by_cases h4 : s.initCnt = 4
  · rw [if_pos h4, (MicroStepCase.loadedLast hd ha _ hl (hlast.mpr h4)).eq]
    rfl
  · rw [if_neg h4, (MicroStepCase.loaded hd ha _ hl (mt hlast.mp h4)).eq, ← hd]
    rfl

/-- Settles O42: the prefix byte is checked, the four after it are shifted into `CODE`. -/
theorem initialByteLoads : Obligations.InitialByteLoads := by
  intro s hd hcnt
  refine ⟨fun ha hf => ?_, fun ha hf => ?_, fun ha h0 hb => ?_, fun ha h0 hb => ?_, fun ha h0 => ?_⟩
  · exact (MicroStepCase.truncated (.inl hd) (inAvail_eq_false.mpr ha) hf).eq
  · exact (MicroStepCase.needsInput (.inl hd) (inAvail_eq_false.mpr ha) hf).eq
  · exact (MicroStepCase.badFirstByte hd (inAvail_eq_true.mpr ha) h0 hb).eq
  · have hl : rcLoad s = .cont { s.takeByte with code := s.code, initCnt := s.initCnt + 1 } := by
      simp only [rcLoad, if_pos h0]
      exact if_pos hb
    rw [(MicroStepCase.loaded hd (inAvail_eq_true.mpr ha) _ hl (by rw [h0]; decide)).eq, h0]
    rfl
  · exact ⟨_, microStep_laterByte hd hcnt (inAvail_eq_true.mpr ha) h0, codeWithByte_toNat_mod s.code s.nextByte,
      add_one_toNat (by omega), rfl⟩

end Sys2Proof.Machine
end

section
/-! CLAIM. O43, O44, O45: the micro-steps that decode a symbol (`43_decode_driver.md` R215, R216, R218, R219). -/

namespace Sys2Proof.Machine

/-- The invariant of a running STEP holds of its session. -/
theorem State.Inv.sessionOk {s : State} (hs : s.Inv) (hp : s.phase = .decoding) : s.sessionOk := by
  obtain ⟨-, -, hsession⟩ := hs
  exact hsession (by simp [hp])

theorem State.Inv.bankOk {s : State} (hs : s.Inv) (hp : s.phase = .decoding) : s.bankOk := by
  obtain ⟨-, hbank, -⟩ := hs.sessionOk hp
  exact hbank

theorem State.Inv.configOk {s : State} (hs : s.Inv) (hp : s.phase = .decoding) : s.configOk := by
  obtain ⟨hconfig, -⟩ := hs.sessionOk hp
  exact hconfig

theorem State.Inv.matchOk {s : State} (hs : s.Inv) (hp : s.phase = .decoding) : s.matchOk := by
  obtain ⟨-, -, -, hmatch, -⟩ := hs.sessionOk hp
  exact hmatch

/-- Settles O43: one case of the micro-step for each control symbol, of which there are three. -/
theorem ctrlDispatch : Obligations.CtrlDispatch := by
  intro s hs hp hd hr
  have hat : s.decodesAt .ctrl := ⟨hd, needsNorm_eq_false.mpr hr⟩
  refine ⟨fun hf => microStep_noSymbol (c := .ctrl) hat hf, fun d hq => ?_⟩
  have hnext : s.symbolNext .ctrl d := ⟨hat, hq⟩
  have hsym : d.sym < 3 := symbolNext_sym_lt (hs.bankOk hp) hnext
  refine ⟨by omega, ?_⟩
  obtain h | h | h : d.sym = 0 ∨ d.sym = 1 ∨ d.sym = 2 := by omega
  · exact ⟨_, (MicroStepCase.ctrlLit d hnext h).eq, rfl, rfl, rfl, by simp [h], by simp [h], by simp [h], by simp [h], rfl⟩
  · exact ⟨_, (MicroStepCase.ctrlMatch d hnext h).eq, rfl, rfl, rfl, by simp [h], by simp [h], by simp [h], by simp [h], rfl⟩
  · exact ⟨_, (MicroStepCase.ctrlEos d hnext h.ge).eq, rfl, rfl, rfl, by simp [h], by simp [h], by simp [h], by simp [h], rfl⟩

/-- The literal byte of a literal symbol (`30_encoding.md` R101). -/
theorem literalOf_toNat {sym : Nat} (h : sym < 256) : (literalOf sym).toNat = sym := Nat.mod_eq_of_lt h

/-- Settles O44: a literal symbol is a byte, and a length symbol fits `MLEN` with 2 added. -/
theorem literalAndLengthDecodes : Obligations.LiteralAndLengthDecodes := by
  refine fun s hs hp hr => ⟨fun hd => ?_, fun hd => ?_⟩
  · have hat : s.decodesAt .lit := ⟨hd, needsNorm_eq_false.mpr hr⟩
    refine ⟨fun hf => microStep_noSymbol (c := .lit) hat hf, fun d hq => ?_⟩
    exact ⟨_, (MicroStepCase.literal d ⟨hat, hq⟩).eq,
      literalOf_toNat (symbolNext_sym_lt (c := .lit) (hs.bankOk hp) ⟨hat, hq⟩), rfl, rfl⟩
  · have hat : s.decodesAt .len := ⟨hd, needsNorm_eq_false.mpr hr⟩
    refine ⟨fun hf => microStep_noSymbol (c := .len) hat hf, fun d hq => ?_⟩
    exact ⟨_, (MicroStepCase.length d ⟨hat, hq⟩).eq,
      lengthOf_toNat (symbolNext_sym_lt (c := .len) (hs.bankOk hp) ⟨hat, hq⟩), rfl, rfl⟩

/-- `XBITS` holds any slot symbol of the session's class. -/
theorem slotBits_toNat {s : State} {d : Decoded} (hc : s.configOk) (hb : s.bankOk) (hd : s.symbolNext .slot d) :
    (BitVec.ofNat 5 d.sym).toNat = d.sym := by
  have hsym : d.sym < s.cfgDictLog2.toNat + 1 := symbolNext_sym_lt hb hd
  obtain ⟨-, hdict, -⟩ : _ ∧ s.cfgDictLog2.toNat ≤ 24 ∧ _ := hc
  exact Nat.mod_eq_of_lt (by omega)

/-- Settles O45: DistCheck of distance 1 is whether anything was produced, as every window holds a byte. -/
theorem slotDecode : Obligations.SlotDecode := by
  intro s hs hp hd hr
  have hat : s.decodesAt .slot := ⟨hd, needsNorm_eq_false.mpr hr⟩
  refine ⟨fun hf => microStep_noSymbol (c := .slot) hat hf, fun d hq => ?_⟩
  have hnext : s.symbolNext .slot d := ⟨hat, hq⟩
  have hcap : 1 ≤ s.cap := Nat.two_pow_pos _
  refine ⟨withDistance 1 (BitVec.ofNat 5 d.sym) (afterSymbol .slot d s), rfl,
    slotBits_toNat (hs.configOk hp) (hs.bankOk hp) hnext, fun h => ?_, fun h ht => ?_, fun h ht => ?_⟩
  · exact (MicroStepCase.slotExtra d hnext h).eq
  · rw [(MicroStepCase.slotNear d hnext h (distOk_eq_true.mpr ⟨ht, hcap⟩)).eq, h]
    rfl
  · have hbad : distOk 1 s = false := by simp [distOk, ht]
    rw [(MicroStepCase.slotBad d hnext h hbad).eq, h]
    rfl

end Sys2Proof.Machine
end

section
/-! CLAIM. O46, O49: the micro-steps that decode a direct bit (`43_decode_driver.md` R220, R222). -/

namespace Sys2Proof.Machine

theorem distanceWithBit_toNat {d : Word} {bit : Nat} (hd : d.toNat < 2 ^ 31) (hbit : bit < 2) :
    (distanceWithBit d bit).toNat = 2 * d.toNat + bit := Nat.mod_eq_of_lt (by omega)

/-- A direct bit that decodes, with the registers it leaves as numbers (`40_range_decoder.md` R137). -/
theorem decodeDirect_of_lt {s : State} (hv : s.code.toNat / (s.range.toNat / 2) < 2) :
    ∃ rg cd, decodeDirect s = some (s.code.toNat / (s.range.toNat / 2), s.setCoder rg cd)
      ∧ rg.toNat = s.range.toNat / 2
      ∧ cd.toNat = s.code.toNat - s.range.toNat / 2 * (s.code.toNat / (s.range.toNat / 2)) := by
  obtain ⟨⟨bit, t⟩, ht⟩ := Option.ne_none_iff_exists'.mp (mt decodeDirect_eq_none.mp hv.not_ge)
  obtain ⟨hrange, hcode⟩ := decodeDirect_toNat ht
  obtain ⟨hbit, -, rfl⟩ := decodeDirect_cases ht
  rw [Nat.shiftRight_one] at hbit
  subst hbit
  exact ⟨_, _, ht, hrange, hcode⟩

theorem distance_lt_of_matchOk {s : State} (hc : s.configOk) (hs : s.matchOk) : s.mdist.toNat < 2 ^ 31 := by
  obtain ⟨-, hdist, -⟩ := hs.bounded
  obtain ⟨-, hdict, -⟩ : _ ∧ s.cfgDictLog2.toNat ≤ 24 ∧ _ := hc
  exact hdist.trans_le (Nat.pow_le_pow_right (by decide) (by omega))

/-- Settles O46: the distance has room for the bit, `XBITS` for one less, and DistCheck follows the last bit. -/
theorem extraBitDecode : Obligations.ExtraBitDecode := by
  intro s hs hp hd hr
  have hat : s.decodesAt .extra := ⟨hd, needsNorm_eq_false.mpr hr⟩
  refine ⟨fun hf => (MicroStepCase.noBit (.inl hat) (decodeDirect_eq_none.mpr hf)).eq, fun hv => ?_⟩
  obtain ⟨rg, cd, hb, hrg, hcd⟩ := decodeDirect_of_lt hv
  obtain ⟨-, -, -, hrunning⟩ := (hs.matchOk hp).atExtra hd
  have hx : 1 ≤ s.xbits.toNat := hrunning (by simp [hp])
  have hlast : s.xbits - 1 = 0 ↔ s.xbits = 1 := sub_eq_zero
  refine ⟨withDistance (distanceWithBit s.mdist _) (s.xbits - 1) (s.setCoder rg cd), rfl, hrg, hcd,
    distanceWithBit_toNat (distance_lt_of_matchOk (hs.configOk hp) (hs.matchOk hp)) hv, ?_,
    fun h => ?_, fun h ht hcap => ?_, fun h hbad => ?_⟩
  · show (s.xbits - 1).toNat + 1 = s.xbits.toNat
    rw [sub_one_toNat hx]
    omega
  · exact (MicroStepCase.extraBit hat _ rg cd hb (mt hlast.mp h)).eq
  · exact (MicroStepCase.extraDone hat _ rg cd hb (hlast.mpr h) (distOk_eq_true.mpr ⟨ht, hcap⟩)).eq
  · refine (MicroStepCase.extraBad hat _ rg cd hb (hlast.mpr h) (Bool.eq_false_iff.mpr fun hok => ?_)).eq
    obtain ⟨ht, hcap⟩ := distOk_eq_true.mp hok
    exact hbad.elim (not_lt.mpr ht) (not_lt.mpr hcap)

theorem State.Inv.storedBounded {s : State} (hs : s.Inv) (hp : s.phase = .decoding) : s.storedBounded := by
  obtain ⟨-, -, -, -, hstored, -⟩ := hs.sessionOk hp
  exact (State.storedOk_iff.mp hstored).1

/-- Settles O49: the stored checksum has room for the bit, `CSUM_CNT` for one less, and the comparison, of the two
checksums as numbers, follows the last bit. -/
theorem checksumBitDecode : Obligations.ChecksumBitDecode := by
  intro s hs hp hd hr
  have hat : s.decodesAt .csum := ⟨hd, needsNorm_eq_false.mpr hr⟩
  refine ⟨fun hf => (MicroStepCase.noBit (.inr hat) (decodeDirect_eq_none.mpr hf)).eq, fun hv => ?_⟩
  obtain ⟨rg, cd, hb, hrg, hcd⟩ := decodeDirect_of_lt hv
  obtain ⟨hcnt, hcsum⟩ := hs.storedBounded hp
  obtain ⟨hstored, hrunning⟩ := hcsum hd
  have hx : 1 ≤ s.csumCnt.toNat := hrunning (by simp [hp])
  have hroom : s.csumStored.toNat < 2 ^ 31 := hstored.trans_le (Nat.pow_le_pow_right (by decide) (by omega))
  have hlast : s.csumCnt - 1 = 0 ↔ s.csumCnt = 1 := sub_eq_zero
  refine ⟨withStoredBit _ s (s.setCoder rg cd), rfl, hrg, hcd, storedWithBit_toNat hroom hv, ?_,
    fun h => ?_, fun h hen hne => ?_, fun h hpass => ?_⟩
  · show (s.csumCnt - 1).toNat + 1 = s.csumCnt.toNat
    rw [sub_one_toNat hx]
    omega
  · exact (MicroStepCase.csumBit hat _ rg cd hb (mt hlast.mp h)).eq
  · refine (MicroStepCase.csumBad hat _ rg cd hb (hlast.mpr h) hen fun heq => hne ?_).eq
    rw [← csumComputed_toNat, ← heq]
  · refine (MicroStepCase.csumDone hat _ rg cd hb (hlast.mpr h) fun hen => ?_).eq
    have heq := hpass.resolve_left (by rw [hen]; decide)
    rw [← csumComputed_toNat] at heq
    exact BitVec.eq_of_toNat_eq heq

end Sys2Proof.Machine
end

section
/-! CLAIM. O47, O48, O50: the micro-steps that produce a byte or check the sync, as steps of the machine
(`43_decode_driver.md` R217, R221, R223). -/

namespace Sys2Proof.Machine

/-- The writes of Produce(b), as they read back (`42_history_window.md` R191, R192). -/
theorem produced_producedByte {s : State} (b : Byte) (hwf : Memory.wf s.win = true)
    (ht : s.totalOut.toNat + 1 < 2 ^ 64) : ProducedByte b s (produced b s) := by
  have hmod (n : Nat) : (BitVec.ofNat 16 (n % 65521)).toNat = n % 65521 :=
    Nat.mod_eq_of_lt ((Nat.mod_lt n (by decide)).trans (by decide))
  refine ⟨Memory.read_write_same .., fun i hi => Memory.read_write_other _ _ hi hwf, add_one_toNat ht,
    ⟨hmod _, ?_⟩, rfl⟩
  exact (hmod _).trans (by rw [adlerNextA, hmod])

/-- Away from the item boundary a step of a running STEP is its micro-step. -/
theorem step_micro {s : State} {m : Micro} (hp : s.phase = .decoding) (hd : s.dstate ≠ .ctrl)
    (h : microStep s = m) : step s = closeMicro m := by
  rw [step_decoding hp, streamStep_micro hd, h]

/-- Settles O47: EMIT is Produce of the pending byte. -/
theorem emitProducesPendingByte : Obligations.EmitProducesPendingByte := by
  refine fun s hwf hp hd => ⟨fun ho ht => ?_, fun ho => microStep_needOut (.inl hd) (outAvail_eq_false.mpr ho)⟩
  exact ⟨_, step_micro hp (by simp [hd]) (MicroStepCase.emitted hd (outAvail_eq_true.mpr ho) ht).eq,
    produced_producedByte s.pendByte hwf ht, rfl⟩

/-- The byte a valid match reads has been written (`42_history_window.md` R197). -/
theorem read_copyPos {s : State} (hw : s.windowOk) (hpos : 1 ≤ s.mdist.toNat)
    (hle : s.mdist.toNat ≤ s.totalOut.toNat) : Memory.read s.win s.copyPos = some (s.winRead s.copyPos) := by
  obtain ⟨b, hb⟩ := Option.ne_none_iff_exists'.mp
    (read_ne_none_of_windowOk hw (k := s.totalOut.toNat - s.mdist.toNat) (by omega))
  rw [← State.copyPos] at hb
  rw [State.winRead, hb, Option.getD_some]

/-- COPY with room, whatever byte it reads: the last one leads to the item boundary. -/
theorem microStep_copyByte {s : State} (hd : s.dstate = .copy) (ho : s.outAvail = true)
    (ht : s.totalOut.toNat + 1 < 2 ^ 64) :
    microStep s = .cont { produced (s.winRead s.copyPos) s with
      mlen := s.mlen - 1, dstate := if s.mlen = 1 then .ctrl else .copy } := by
  have hlast : s.mlen - 1 = 0 ↔ s.mlen = 1 := sub_eq_zero
  by_cases h1 : s.mlen = 1
  · rw [if_pos h1, (MicroStepCase.copiedLast hd ho ht (hlast.mpr h1)).eq]
    rfl
  · rw [if_neg h1, (MicroStepCase.copied hd ho ht (mt hlast.mp h1)).eq, ← hd]
    rfl

/-- Settles O48: COPY is Produce of the byte `MDIST` back, which the window holds. -/
theorem copyProducesWindowByte : Obligations.CopyProducesWindowByte := by
  refine fun s hs hp hd => ⟨fun ho ht => ?_, fun ho => microStep_needOut (.inr hd) (outAvail_eq_false.mpr ho)⟩
  obtain ⟨-, -, -, hmatch, -, -, hwindow, -⟩ := hs.sessionOk hp
  obtain ⟨hwf, -⟩ := hs
  obtain ⟨hlen, hpos, hle, -⟩ := hmatch.atCopy hd
  refine ⟨_, _, step_micro hp (by simp [hd]) (microStep_copyByte hd (outAvail_eq_true.mpr ho) ht),
    read_copyPos hwindow hpos hle, produced_producedByte _ hwf ht, ?_, rfl⟩
  show (s.mlen - 1).toNat + 1 = s.mlen.toNat
  rw [sub_one_toNat hlen]
  omega

/-- Settles O50: the sync check either finishes or fails, and both end the STEP. -/
theorem tailEndsStream : Obligations.TailEndsStream := by
  intro s hp hd hr
  have hat : s.decodesAt .tail := ⟨hd, needsNorm_eq_false.mpr hr⟩
  exact ⟨fun hc => step_micro hp (by simp [hd]) (MicroStepCase.tailDone hat hc).eq,
    fun hc => step_micro hp (by simp [hd]) (MicroStepCase.tailBad hat hc).eq⟩

end Sys2Proof.Machine
end

section
/-! SUPPORT. A measure of the micro-steps a STEP has left, which every micro-step that continues brings down
(`stepsLeft_lt`): the bytes still to consume, the room still to fill, and what is left of the current item
(`43_decode_driver.md` R233). It is a function of a bound `X` on the extra bits of a distance. -/

namespace Sys2Proof.Machine

/-- How often a register can be counted down to 0, from 0 the long way round. -/
def countdown {w : Nat} (x : BitVec w) : Nat := (x - 1).toNat + 1

theorem countdown_le {w : Nat} (x : BitVec w) : countdown x ≤ 2 ^ w := (x - 1).isLt

theorem countdown_eq {w : Nat} {x : BitVec w} (hx : 1 ≤ x.toNat) : countdown x = x.toNat := by
  rw [countdown, sub_one_toNat hx]
  omega

theorem countdown_sub_one {w : Nat} {x : BitVec w} (hx : x - 1 ≠ 0) : countdown (x - 1) + 1 = countdown x := by
  rw [countdown_eq (Nat.pos_of_ne_zero fun h => hx (BitVec.eq_of_toNat_eq (by simpa using h))), countdown]

/-- What is left of the current item, the bytes it consumes not counted and each byte it produces counting for
`X + 4`: up to the 34 micro-steps of EOS, or the `X + 4` of a match, the first of its COPYs among them
(`43_decode_driver.md` R230, R231). -/
def State.localSteps (X : Nat) (s : State) : Nat :=
  match s.dstate with
  | .rcInit => max 34 (X + 4)
  | .ctrl => max 34 (X + 4)
  | .lit => max 33 (X + 3)
  | .len => max 33 (X + 3)
  | .slot => max 32 (X + 2)
  | .extra => max (31 - X) 1 + countdown s.xbits
  | .emit => max (31 - X) 1
  | .copy => max (31 - X) 1
  | .csum => countdown s.csumCnt + 1
  | .tail => 1
  | .done => 1

/-- The micro-steps a STEP has left, at most. -/
def State.stepsLeft (X : Nat) (s : State) : Nat :=
  s.input.length - s.ipos + (X + 4) * (s.ocap - s.out.length) + s.localSteps X

theorem one_le_localSteps (X : Nat) (s : State) : 1 ≤ s.localSteps X := by
  unfold State.localSteps
  split <;> omega

variable {X : Nat} {s t : State}

/-- The cursor stands still, and the item comes nearer to its end. -/
theorem stepsLeft_lt_of_still (hin : t.input = s.input) (hpos : t.ipos = s.ipos) (hout : t.out = s.out)
    (hcap : t.ocap = s.ocap) (hl : t.localSteps X < s.localSteps X) : t.stepsLeft X < s.stepsLeft X := by
  rw [State.stepsLeft, State.stepsLeft, hin, hpos, hout, hcap]
  omega

/-- A byte is consumed, and the item gets no longer. -/
theorem stepsLeft_lt_of_consumed (hin : t.input = s.input) (hpos : t.ipos = s.ipos + 1) (hout : t.out = s.out)
    (hcap : t.ocap = s.ocap) (ha : s.inAvail = true) (hl : t.localSteps X ≤ s.localSteps X) :
    t.stepsLeft X < s.stepsLeft X := by
  have hroom := inAvail_eq_true.mp ha
  rw [State.stepsLeft, State.stepsLeft, hin, hpos, hout, hcap]
  omega

/-- A byte is produced, which pays for the next item. -/
theorem stepsLeft_lt_of_produced {b : Byte} (hin : t.input = s.input) (hpos : t.ipos = s.ipos)
    (hout : t.out = s.out ++ [b]) (hcap : t.ocap = s.ocap) (ho : s.outAvail = true)
    (hl : t.localSteps X < s.localSteps X + (X + 4)) : t.stepsLeft X < s.stepsLeft X := by
  have hroom := outAvail_eq_true.mp ho
  obtain ⟨n, hn⟩ := Nat.exists_eq_add_of_lt hroom
  have hbefore : s.ocap - s.out.length = n + 1 := by omega
  have hafter : s.ocap - (s.out.length + 1) = n := by omega
  rw [State.stepsLeft, State.stepsLeft, hin, hpos, hout, hcap, List.length_append, List.length_singleton, hbefore,
    hafter, Nat.mul_succ]
  omega

/-- Every micro-step that continues brings the measure down; one that leaves EXTRA bits to decode must leave at most
`X`. -/
theorem stepsLeft_lt (h : microStep s = .cont t) (hx : t.dstate = .extra → countdown t.xbits ≤ X) :
    t.stepsLeft X < s.stepsLeft X := by
  cases microStep_cases h with
  | loaded hd ha => exact stepsLeft_lt_of_consumed rfl rfl rfl rfl ha (by simp [State.localSteps, hd])
  | loadedLast hd ha => exact stepsLeft_lt_of_consumed rfl rfl rfl rfl ha (by simp [State.localSteps, hd])
  | renormalised hd hn ha => exact stepsLeft_lt_of_consumed rfl rfl rfl rfl ha (Nat.le_refl _)
  | ctrlLit d hd | ctrlMatch d hd =>
    refine stepsLeft_lt_of_still rfl rfl rfl rfl ?_
    simp only [State.localSteps, hd.at_dstate, Ctx.dstate, goto_dstate]
    omega
  | ctrlEos d hd =>
    refine stepsLeft_lt_of_still rfl rfl rfl rfl ?_
    simp [State.localSteps, hd.at_dstate, Ctx.dstate, countdown]
  | literal d hd | length d hd =>
    refine stepsLeft_lt_of_still rfl rfl rfl rfl ?_
    simp only [State.localSteps, hd.at_dstate, Ctx.dstate]
    omega
  | slotNear d hd =>
    refine stepsLeft_lt_of_still rfl rfl rfl rfl ?_
    simp only [State.localSteps, hd.at_dstate, Ctx.dstate, goto_dstate]
    omega
  | slotExtra d hd =>
    have hbits : countdown (BitVec.ofNat 5 d.sym) ≤ X := hx rfl
    refine stepsLeft_lt_of_still rfl rfl rfl rfl ?_
    show max (31 - X) 1 + countdown (BitVec.ofNat 5 d.sym) < s.localSteps X
    simp only [State.localSteps, hd.at_dstate, Ctx.dstate]
    omega
  | extraBit hd bit rg cd hb hmore =>
    have hbits := countdown_sub_one hmore
    refine stepsLeft_lt_of_still rfl rfl rfl rfl ?_
    simp only [State.localSteps, hd.1, setCoder_dstate]
    omega
  | extraDone hd =>
    refine stepsLeft_lt_of_still rfl rfl rfl rfl ?_
    simp [State.localSteps, hd.1, countdown]
  | emitted hd ho =>
    refine stepsLeft_lt_of_produced rfl rfl rfl rfl ho ?_
    simp only [State.localSteps, hd, goto_dstate]
    omega
  | copied hd ho =>
    refine stepsLeft_lt_of_produced rfl rfl rfl rfl ho ?_
    simp only [State.localSteps, hd, produced_dstate]
    omega
  | copiedLast hd ho =>
    refine stepsLeft_lt_of_produced rfl rfl rfl rfl ho ?_
    simp only [State.localSteps, hd, goto_dstate]
    omega
  | csumBit hd bit rg cd hb hmore =>
    have hbits := countdown_sub_one hmore
    refine stepsLeft_lt_of_still rfl rfl rfl rfl ?_
    simp only [State.localSteps, hd.1, setCoder_dstate]
    omega
  | csumDone hd =>
    refine stepsLeft_lt_of_still rfl rfl rfl rfl ?_
    simp [State.localSteps, hd.1, countdown]

/-- No micro-step runs out of the loop's bound. -/
theorem microStep_ne_stepBoundExceeded (s : State) : microStep s ≠ .fault .stepBoundExceeded := fun h =>
  nomatch microStep_cases h

/-- A loop with at least the measure's micro-steps to run ends within them. -/
theorem runLoop_ne_stepBoundExceeded {n : Nat}
    (hx : ∀ k t, microAfter k s = some t → t.dstate = .extra → countdown t.xbits ≤ X) (hn : s.stepsLeft X ≤ n) :
    runLoop n s ≠ .fault .stepBoundExceeded := by
  induction n generalizing s with
  | zero =>
    have hpos := one_le_localSteps X s
    rw [State.stepsLeft] at hn
    omega
  | succ n ih =>
    cases hm : microStep s with
    | cont u =>
      have hlt : u.stepsLeft X < s.stepsLeft X := stepsLeft_lt hm (hx 1 u (microAfter_cont 0 hm))
      rw [runLoop_cont hm]
      exact ih (fun k t hk => hx (k + 1) t ((microAfter_cont k hm).trans hk)) (by omega)
    | stop c u => rw [runLoop_stop hm]; simp
    | fault f => rw [runLoop_fault hm, ← hm]; exact microStep_ne_stepBoundExceeded s

end Sys2Proof.Machine
end

section
/-! CLAIM. O22, O23: the bound on the micro-steps of a STEP (`43_decode_driver.md` R233, `44_host_commands.md` R270). -/

namespace Sys2Proof.Machine

theorem microAfter_sameConfig {k : Nat} {s t : State} (h : microAfter k s = some t) : s.sameConfig t :=
  microAfter_keeps (P := s.sameConfig) (fun u hu => (microStep_sameConfig u).imp fun _ => hu.trans) (.refl s) h

/-- A STEP from a state that meets the invariant never has more extra bits to come than its class of dictionary. -/
theorem countdown_xbits_le {s t : State} {f : Bool} {inp : List Byte} {oc k : Nat} (hs : s.Inv)
    (hp : s.phase.resumable) (hk : microAfter k (startStep f inp oc s) = some t) (hd : t.dstate = .extra) :
    countdown t.xbits ≤ s.cfgDictLog2.toNat := by
  obtain ⟨hrun, hlive⟩ := microAfter_live rfl (startStep_live hs hp f inp oc) hk
  obtain ⟨hdict, -, -⟩ := microAfter_sameConfig hk
  have hmatch := (hlive.inv hrun).matchOk hrun
  obtain ⟨-, -, hbits⟩ := hmatch.bounded
  obtain ⟨-, -, -, hpos⟩ := hmatch.atExtra hd
  rw [countdown_eq (hpos (by simp [hrun]))]
  exact hbits.trans_eq (congrArg BitVec.toNat hdict)

/-- Settles O22: at its start a STEP that meets the invariant has at most the bound's micro-steps left. -/
theorem stepWithinProgressBound : Obligations.StepWithinProgressBound := by
  intro s f inp oc hs hp
  have hextra := fun k t => countdown_xbits_le (f := f) (inp := inp) (oc := oc) (k := k) (t := t) hs hp
  refine runLoop_ne_stepBoundExceeded (X := s.cfgDictLog2.toNat) hextra ?_
  have hlive := (startStep_live hs hp f inp oc).inv rfl
  obtain ⟨-, hdict, -⟩ : _ ∧ s.cfgDictLog2.toNat ≤ 24 ∧ _ := hlive.configOk rfl
  have hlocal : (startStep f inp oc s).localSteps s.cfgDictLog2.toNat ≤ 35 := by
    obtain ⟨hcnt, hcsum⟩ := hlive.storedBounded rfl
    unfold State.localSteps
    split
    case h_6 hd =>
      have hbits : countdown (startStep f inp oc s).xbits ≤ s.cfgDictLog2.toNat := hextra 0 _ rfl hd
      omega
    case h_9 hd =>
      rw [countdown_eq ((hcsum hd).2 (by simp))]
      omega
    all_goals omega
  rw [State.stepsLeft, Nat.add_comm s.cfgDictLog2.toNat 4]
  exact Nat.add_le_add_left hlocal _

/-- The model's bound is past the measure of any state, whatever its registers count down from. -/
theorem runStep_ne_stepBoundExceeded (f : Bool) (inp : List Byte) (oc : Nat) (s : State) :
    runStep f inp oc s ≠ .fault .stepBoundExceeded := by
  refine runLoop_ne_stepBoundExceeded (X := 32) (fun k t _ _ => countdown_le t.xbits) ?_
  have hlocal : (startStep f inp oc s).localSteps 32 ≤ 65 := by
    have hxbits : countdown (startStep f inp oc s).xbits ≤ 32 := countdown_le _
    have hcsum : countdown (startStep f inp oc s).csumCnt ≤ 64 := countdown_le _
    unfold State.localSteps
    split <;> omega
  show inp.length - 0 + 36 * (oc - 0) + (startStep f inp oc s).localSteps 32 ≤ inp.length + 40 * oc + 128
  omega

/-- Settles O23: a STEP and a ONESHOT stop on the bound only where their loop does. -/
theorem loopBoundNeverMet : Obligations.LoopBoundNeverMet := by
  refine fun s => ⟨fun f inp oc h => ?_, fun p src cap want h => ?_⟩
  · simp only [exec, execStep] at h
    split at h
    · cases h
    · cases h
    · cases h
    · cases hm : runStep f inp oc s <;> rw [hm] at h <;> cases h
      exact runStep_ne_stepBoundExceeded f inp oc s hm
  · simp only [exec, execOneshot] at h
    split_ifs at h
    · cases h
    · split at h
      · cases h
      · exact runLoop_ne_cont _ _ _ ‹_›
      · rename_i hm
        cases h
        exact runStep_ne_stepBoundExceeded _ _ _ _ hm
    · cases h

end Sys2Proof.Machine
end

section
/-! SUPPORT. A STEP seen inside a longer one: `State.inside e` gives a state the cursor of a STEP that has `e.pre`
before and `e.post` after its input, and `e.out` before its output. Micro-steps do the same in both
(`43_decode_driver.md` R232, R235). -/

namespace Sys2Proof.Machine

/-- What a longer STEP has that a STEP inside it has not. -/
structure Enclosing where
  pre : List Byte
  post : List Byte
  out : List Byte
  ocap : Nat
  final : Bool
  responses : List Response

/-- The state of the longer STEP. -/
def State.inside (e : Enclosing) (s : State) : State :=
  { s with
    input := e.pre ++ s.input ++ e.post
    ipos := e.pre.length + s.ipos
    out := e.out ++ s.out
    ocap := e.ocap
    final := e.final
    responses := e.responses }

variable {e : Enclosing} {s t u : State}

/-- A byte at hand is at hand in the longer STEP, and is the same byte. -/
theorem inAvail_inside (h : s.inAvail = true) : (s.inside e).inAvail = true := by
  have hlt := inAvail_eq_true.mp h
  rw [inAvail_eq_true]
  simp only [State.inside, List.length_append]
  omega

theorem nextByte_inside (h : s.inAvail = true) : (s.inside e).nextByte = s.nextByte := by
  have hlt := inAvail_eq_true.mp h
  have hout : e.pre.length + s.ipos < (e.pre ++ s.input).length := by
    rw [List.length_append]
    omega
  simp only [State.nextByte, State.inside, List.getD_eq_getElem?_getD]
  rw [List.getElem?_append_left hout, List.getElem?_append_right (Nat.le_add_right ..), Nat.add_sub_cancel_left]

theorem outAvail_inside (h : e.out.length + s.out.length < e.ocap) : (s.inside e).outAvail = true := by
  rw [outAvail_eq_true]
  simpa [State.inside] using h

theorem produced_inside (b : Byte) (s : State) : produced b (s.inside e) = (produced b s).inside e := by
  simp [produced, adlerUpdate, State.outByte, State.inside, State.writePos, State.cap]

theorem rcLoad_inside {cd : Word} (ha : s.inAvail = true)
    (h : rcLoad s = .cont { s.takeByte with code := cd, initCnt := s.initCnt + 1 }) :
    rcLoad (s.inside e) = .cont { (s.inside e).takeByte with code := cd, initCnt := s.initCnt + 1 } := by
  rcases rcLoad_cases s with ⟨h0, hb, hr⟩ | ⟨h0, hb, hr⟩ | ⟨h0, hr⟩
  · obtain rfl : s.code = cd := by simpa using hr.symm.trans h
    simp only [rcLoad, nextByte_inside ha, hb, if_true]
    exact if_pos h0
  · cases hr.symm.trans h
  · obtain rfl : codeWithByte s.code s.nextByte = cd := by simpa using hr.symm.trans h
    simp only [rcLoad, nextByte_inside ha]
    exact if_neg h0

/-- A direct bit depends on the coder alone. -/
theorem decodeDirect_inside {bit : Nat} {rg cd : Word} (h : decodeDirect s = some (bit, s.setCoder rg cd)) :
    decodeDirect (s.inside e) = some (bit, (s.inside e).setCoder rg cd) := by
  obtain ⟨hbit, hlt, hstate⟩ := decodeDirect_cases h
  obtain rfl : rg = _ := congrArg State.range hstate
  obtain rfl : cd = _ := congrArg State.code hstate
  subst hbit
  exact if_neg (not_le.mpr hlt)

/-- A micro-step that continues does the same in a longer STEP that has room for what it has put out. -/
theorem microStep_inside_cont (h : microStep s = .cont t) (hroom : e.out.length + t.out.length ≤ e.ocap) :
    microStep (s.inside e) = .cont (t.inside e) := by
  refine MicroStepCase.eq ?_
  cases microStep_cases h with
  | loaded hd ha cd hl hn => exact .loaded (s := s.inside e) hd (inAvail_inside ha) cd (rcLoad_inside ha hl) hn
  | loadedLast hd ha cd hl hn => exact .loadedLast (s := s.inside e) hd (inAvail_inside ha) cd (rcLoad_inside ha hl) hn
  | renormalised hd hn ha =>
    have hnorm : rcNorm (s.inside e) = (rcNorm s).inside e := by
      simp only [rcNorm, nextByte_inside ha]
      rfl
    exact hnorm ▸ .renormalised (s := s.inside e) hd hn (inAvail_inside ha)
  | ctrlLit d hd hs => exact .ctrlLit (s := s.inside e) d hd hs
  | ctrlMatch d hd hs => exact .ctrlMatch (s := s.inside e) d hd hs
  | ctrlEos d hd hs => exact .ctrlEos (s := s.inside e) d hd hs
  | literal d hd => exact .literal (s := s.inside e) d hd
  | length d hd => exact .length (s := s.inside e) d hd
  | slotNear d hd hs hk => exact .slotNear (s := s.inside e) d hd hs hk
  | slotExtra d hd hs => exact .slotExtra (s := s.inside e) d hd hs
  | extraBit hd bit rg cd hb hx => exact .extraBit (s := s.inside e) hd bit rg cd (decodeDirect_inside hb) hx
  | extraDone hd bit rg cd hb hx hk => exact .extraDone (s := s.inside e) hd bit rg cd (decodeDirect_inside hb) hx hk
  | csumBit hd bit rg cd hb hx => exact .csumBit (s := s.inside e) hd bit rg cd (decodeDirect_inside hb) hx
  | csumDone hd bit rg cd hb hx hk => exact .csumDone (s := s.inside e) hd bit rg cd (decodeDirect_inside hb) hx hk
  | emitted hd ho ht =>
    have hput : e.out.length + s.out.length < e.ocap := by simpa [← Nat.add_assoc] using hroom
    have hcase := MicroStepCase.emitted (s := s.inside e) hd (outAvail_inside hput) ht
    rwa [produced_inside] at hcase
  | copied hd ho ht hm =>
    have hput : e.out.length + s.out.length < e.ocap := by simpa [← Nat.add_assoc] using hroom
    have hcase := MicroStepCase.copied (s := s.inside e) hd (outAvail_inside hput) ht hm
    rwa [produced_inside] at hcase
  | copiedLast hd ho ht hm =>
    have hput : e.out.length + s.out.length < e.ocap := by simpa [← Nat.add_assoc] using hroom
    have hcase := MicroStepCase.copiedLast (s := s.inside e) hd (outAvail_inside hput) ht hm
    rwa [produced_inside] at hcase

/-- A longer STEP that ends where the one inside it ends. -/
def Enclosing.ends (e : Enclosing) (s : State) : Prop :=
  e.post = [] ∧ e.ocap = e.out.length + s.ocap ∧ e.final = s.final

theorem inAvail_inside_false (he : e.ends s) (h : s.inAvail = false) : (s.inside e).inAvail = false := by
  obtain ⟨hpost, -, -⟩ := he
  rw [inAvail_eq_false] at h ⊢
  simpa [State.inside, hpost] using h

theorem outAvail_inside_false (he : e.ends s) (h : s.outAvail = false) : (s.inside e).outAvail = false := by
  obtain ⟨-, hcap, -⟩ := he
  rw [outAvail_eq_false] at h ⊢
  simpa [State.inside, hcap] using h

/-- A micro-step that stops does so in a longer STEP that ends with it, leaving the same. -/
theorem microStep_inside_stop {c : Status} (he : e.ends s) (h : microStep s = .stop c t) :
    microStep (s.inside e) = .stop c (t.inside e) := by
  obtain ⟨hpost, hcap, hfinal⟩ := id he
  refine MicroStepCase.eq ?_
  cases microStep_cases h with
  | truncated hd ha hf => exact .truncated (s := s.inside e) hd (inAvail_inside_false he ha) (hfinal.trans hf)
  | needsInput hd ha hf => exact .needsInput (s := s.inside e) hd (inAvail_inside_false he ha) (hfinal.trans hf)
  | badFirstByte hd ha h0 hb => exact .badFirstByte (s := s.inside e) hd (inAvail_inside ha) h0 (nextByte_inside (e := e) ha ▸ hb)
  | noSymbol c hd hf => exact .noSymbol (s := s.inside e) c hd hf
  | noBit hd hf => exact .noBit (s := s.inside e) hd (decodeDirect_eq_none.mpr (decodeDirect_eq_none (s := s).mp hf))
  | slotBad d hd hs hk => exact .slotBad (s := s.inside e) d hd hs hk
  | extraBad hd bit rg cd hb hx hk => exact .extraBad (s := s.inside e) hd bit rg cd (decodeDirect_inside hb) hx hk
  | needsOutput hd ho => exact .needsOutput (s := s.inside e) hd (outAvail_inside_false he ho)
  | csumBad hd bit rg cd hb hx hen hk => exact .csumBad (s := s.inside e) hd bit rg cd (decodeDirect_inside hb) hx hen hk
  | tailDone hd hc => exact .tailDone (s := s.inside e) hd hc
  | tailBad hd hc => exact .tailBad (s := s.inside e) hd hc

/-- The output only grows. -/
theorem microStep_out_le (h : microStep s = .cont t) : s.out.length ≤ t.out.length := by
  cases microStep_cases h with
  | emitted | copied | copiedLast => simp
  | _ => exact Nat.le_refl _

theorem microAfter_out_le {k : Nat} (h : microAfter k s = some t) : s.out.length ≤ t.out.length := by
  induction k generalizing s with
  | zero => cases h; exact Nat.le_refl _
  | succ k ih =>
    obtain ⟨u, hu, h⟩ := microAfter_succ_cases h
    exact (microStep_out_le hu).trans (ih h)

/-- Micro-steps that continue do the same in a longer STEP that has room for all they put out. -/
theorem microAfter_inside {k : Nat} (h : microAfter k s = some t) (hroom : e.out.length + t.out.length ≤ e.ocap) :
    microAfter k (s.inside e) = some (t.inside e) := by
  induction k generalizing s with
  | zero => cases h; rfl
  | succ k ih =>
    obtain ⟨u, hu, h⟩ := microAfter_succ_cases h
    have hle := microAfter_out_le h
    rw [microAfter_cont k (microStep_inside_cont hu (by omega))]
    exact ih h

end Sys2Proof.Machine
end

section
/-! CLAIM. O24: two STEPs under the handover protocol are one (`43_decode_driver.md` R232, R235, `20_memory.md`
R72). -/

namespace Sys2Proof.Machine

/-- A suspension writes `PHASE` alone. -/
theorem microStep_suspended {s t : State} {c : Status} (h : microStep s = .stop c t)
    (hp : t.phase = .needInput ∨ t.phase = .needOutputSpace) : t = s.setPhase t.phase := by
  cases microStep_cases h with
  | needsInput | needsOutput => rfl
  | _ => simp at hp

/-- A STEP is where micro-steps from its start lead, if the one after them stops. -/
theorem execStep_of_microAfter {s u v : State} {f : Bool} {inp : List Byte} {oc k : Nat} {c : Status}
    (hp : s.phase.resumable) (hu : microAfter k (startStep f inp oc s) = some u) (hstop : microStep u = .stop c v) :
    exec (.step f inp oc) s = .next (endStep c v) := by
  have hend : runLoop (k + 1) (startStep f inp oc s) = .stop c v := by
    rw [runLoop_microAfter 1 hu, runLoop_stop hstop]
  have hrun : runStep f inp oc s = .stop c v := by
    rw [runStep, ← runLoop_more (k + 1) (runStep_ne_stepBoundExceeded f inp oc s), Nat.add_comm, ← hend]
    exact runLoop_more _ (by simp [hend])
  rw [execStep_running hp, hrun]
  rfl

theorem microAfter_frame {k : Nat} {s t : State} (h : microAfter k s = some t) :
    t.input = s.input ∧ t.ocap = s.ocap ∧ t.final = s.final ∧ t.responses = s.responses := by
  induction k generalizing s with
  | zero => cases h; exact ⟨rfl, rfl, rfl, rfl⟩
  | succ k ih =>
    obtain ⟨u, hu, h⟩ := microAfter_succ_cases h
    obtain ⟨-, -, -, -, -, hinput, hocap, hfinal, -, hresponses, -⟩ := microStep_frame hu
    rw [← hinput, ← hocap, ← hfinal, ← hresponses]
    exact ih h

/-- The state a STEP stops in has the results of its start. -/
theorem stop_responses {f : Bool} {inp : List Byte} {oc k : Nat} {s u v : State} {c : Status}
    (hu : microAfter k (startStep f inp oc s) = some u)
    (hstop : microStep u = .stop c v) : v.responses = s.responses := by
  obtain ⟨-, -, -, hresponses⟩ := microAfter_frame hu
  have hleaves := microStep_responses u
  rw [hstop] at hleaves
  exact hleaves.trans hresponses

/-- The result a STEP returned is that of the state it stopped in. -/
theorem stepResult_eq {v : State} {c : Status} {rs : List Response} {r : Response}
    (h : (endStep c v).responses = rs ++ [r]) (hv : v.responses = rs) : stepResult c v = r := by
  rw [endStep_responses, hv] at h
  simpa using h

/-- Settles O24: the first STEP's micro-steps are those of the one STEP while its input and its room last, and the
second's are those after them. -/
theorem chunkIndependence : Obligations.ChunkIndependence := by
  intro s s1 s2 r1 r2 f1 f2 a b m n hs hp h1 hr1 hsusp h2 hr2
  have hs1 : s1.Inv := execStep_inv hs (by rcases hp with hp | hp | hp <;> simp [hp]) h1
  obtain ⟨k, u, c, v, hu, hstop, rfl⟩ := execStep_running_next hp h1
  obtain ⟨p, rfl⟩ : ∃ p, v = u.setPhase p := ⟨_, microStep_suspended hstop hsusp⟩
  obtain rfl := stepResult_eq hr1 (stop_responses hu hstop)
  obtain ⟨hphase, -, ⟨hpos, -⟩, -⟩ := microAfter_live rfl (startStep_live hs hp f1 a m) hu
  obtain ⟨hinput, -⟩ := microAfter_frame hu
  obtain ⟨k', u', c', v', hu', hstop', rfl⟩ := execStep_running_next (.inr hsusp) h2
  obtain rfl := stepResult_eq hr2 (stop_responses hu' hstop')
  obtain ⟨-, -, ⟨-, hout⟩, -⟩ := microAfter_live rfl (startStep_live hs1 (.inr hsusp) f2 _ n) hu'
  obtain ⟨-, hocap, hfinal, -⟩ := microAfter_frame hu'
  let e1 : Enclosing := ⟨[], b, [], u.out.length + n, f2, s.responses⟩
  let e2 : Enclosing := ⟨a.take u.ipos, [], u.out, u.out.length + n, f2, s.responses⟩
  have hinside := microAfter_inside (e := e1) hu (by simp [e1])
  have hinside' := microAfter_inside (e := e2) hu' (by simpa [e2, hocap] using hout)
  have htake : (a.take u.ipos).length = u.ipos := List.length_take_of_le (by simpa [hinput] using hpos)
  have hall : a.take u.ipos ++ (a.drop u.ipos ++ b) = u.input ++ b := by
    rw [← List.append_assoc, List.take_append_drop, hinput]
    rfl
  have hresume : (startStep f2 (a.drop u.ipos ++ b) n (endStep c (u.setPhase p))).inside e2 = u.inside e1 := by
    simp [State.inside, startStep, State.openCursor, State.setPhase, endStep, State.respond, State.closeCursor, e1, e2,
      htake, hall, hphase]
  change microAfter k' (State.inside e2 (startStep f2 (a.drop u.ipos ++ b) n _)) = _ at hinside'
  rw [hresume] at hinside'
  have hends : e2.ends u' := ⟨rfl, congrArg (u.out.length + ·) hocap.symm, hfinal.symm⟩
  refine ⟨_, execStep_of_microAfter hp (microAfter_join hinside hinside') (microStep_inside_stop hends hstop'), rfl, ?_⟩
  simp [stepResult, State.inside, e2, htake]

end Sys2Proof.Machine
end

section
/-! CLAIM. O31: the transitions of `PHASE` between commands (`43_decode_driver.md` R228, `10_state.md` R28), with PARAM
read off its bits as numbers (`30_encoding.md` R94, R95). -/

namespace Sys2Proof.Machine

/-- The reserved bits of PARAM are bits 7:5, 15:12 and 31:17. -/
theorem paramMask_getLsbD :
    ∀ i < 32, (0xFFFEF0E0 : Word).getLsbD i = decide (5 ≤ i ∧ i < 8 ∨ 12 ≤ i ∧ i < 16 ∨ 17 ≤ i) := by decide

theorem paramReservedClear_iff (p : Word) : paramReservedClear p = true ↔ p &&& 0xFFFEF0E0 = 0 := by
  have hmask : p &&& 0xFFFEF0E0 = 0 ↔
      ∀ i < 32, (5 ≤ i ∧ i < 8 ∨ 12 ≤ i ∧ i < 16 ∨ 17 ≤ i) → p.getLsbD i = false := by
    rw [BitVec.eq_of_getLsbD_eq_iff]
    refine forall₂_congr fun i hi => ?_
    rw [BitVec.getLsbD_and, paramMask_getLsbD i hi]
    cases p.getLsbD i <;> simp
  rw [hmask]
  simp only [paramReservedClear, Bool.and_eq_true, beq_iff_eq, extractLsb'_eq_zero_iff]
  constructor
  · rintro ⟨⟨hlow, hmid⟩, hhigh⟩ i hi (⟨h5, h8⟩ | ⟨h12, h16⟩ | h17)
    · simpa [Nat.add_sub_cancel' h5] using hlow (i - 5) (by omega)
    · simpa [Nat.add_sub_cancel' h12] using hmid (i - 12) (by omega)
    · simpa [Nat.add_sub_cancel' h17] using hhigh (i - 17) (by omega)
  · exact fun h => ⟨⟨fun j hj => h _ (by omega) (by omega), fun j hj => h _ (by omega) (by omega)⟩,
      fun j hj => h _ (by omega) (by omega)⟩

theorem paramValid_iff (p : Word) : paramValid p = true ↔ paramLegal p := by
  have hdict : (paramDictLog2 p).toNat = p.toNat % 32 := by simp [paramDictLog2, BitVec.extractLsb'_toNat]
  have hrate : (paramRate p).toNat = p.toNat / 256 % 16 := by
    simp [paramRate, BitVec.extractLsb'_toNat, Nat.shiftRight_eq_div_pow]
  simp only [paramValid, Bool.and_eq_true, decide_eq_true_eq, paramReservedClear_iff, hdict, hrate, and_assoc]

/-- INIT, and REINIT where a session is open, change `PHASE` only to start a session. -/
theorem startSession_phase {p : Word} {s t : State} (h : startSession p s = .next t) (hne : t.phase ≠ s.phase) :
    t.phase = .ready ∧ paramLegal p := by
  simp only [startSession] at h
  split at h <;> cases h
  · exact ⟨rfl, (paramValid_iff p).mp ‹_›⟩
  · exact absurd rfl hne

/-- The phases a micro-step stops in. -/
theorem microStep_stop_phase {s t : State} {c : Status} (h : microStep s = .stop c t) :
    t.phase = .needInput ∨ t.phase = .needOutputSpace ∨ t.phase = .success ∨ t.phase = .failed := by
  cases microStep_cases h <;> simp

/-- An item is executed only inside a STEP. -/
theorem runItem_between {s t : State} {i : Instr} (hp : s.phase ≠ .decoding) (h : runItem i s = .next t) : False := by
  rw [runItem_of_not_read fun m hm => hp (readItem_boundary hm).1] at h
  cases h

/-- A phase between commands is one in which a STEP runs the loop, or one in which it answers at once. -/
theorem execStep_phase {f : Bool} {inp : List Byte} {oc : Nat} {s t : State} (hp : s.phase ≠ .decoding)
    (h : exec (.step f inp oc) s = .next t) (hne : t.phase ≠ s.phase) :
    s.phase.resumable
    ∧ (t.phase = .needInput ∨ t.phase = .needOutputSpace ∨ t.phase = .success ∨ t.phase = .failed) := by
  have hr : s.phase.resumable := by
    cases hph : s.phase with
    | decoding => exact absurd hph hp
    | ready | needInput | needOutputSpace => simp [Phase.resumable]
    | uninit | success | failed =>
      simp only [exec, execStep, hph] at h
      cases h
      exact absurd rfl hne
  obtain ⟨k, u, c, v, -, hstop, rfl⟩ := execStep_running_next hr h
  have hphase := microStep_stop_phase hstop
  exact ⟨hr, hphase⟩

/-- ONESHOT leaves `PHASE` as it found it: it runs only in UNINIT, and ends there. -/
theorem execOneshot_phase {p : Word} {src : List Byte} {cap : Nat} {want : Bool} {s t : State}
    (h : execOneshot p src cap want s = .next t) : t.phase = s.phase := by
  simp only [execOneshot] at h
  split at h
  · cases h; rfl
  · rename_i huninit
    split at h
    · split at h <;> cases h
      exact (not_not.mp huninit).symm
    · cases h; rfl

/-- Settles O31, instruction by instruction: the commands that only answer keep `PHASE`, and no item executes. -/
theorem phaseTransitions : Obligations.PhaseTransitions := by
  intro s t i hp h hne
  cases i with
  | version => cases h; exact absurd rfl hne
  | init p =>
    obtain ⟨hready, hlegal⟩ := startSession_phase h hne
    exact .inl ⟨hready, p, hlegal, .inl rfl⟩
  | reinit p =>
    simp only [exec, execReinit] at h
    split at h
    · cases h; exact absurd rfl hne
    · obtain ⟨hready, hlegal⟩ := startSession_phase h hne
      exact .inl ⟨hready, p, hlegal, .inr ⟨rfl, ‹_›⟩⟩
  | deinit =>
    simp only [exec, execDeinit] at h
    split at h <;> cases h
    · exact absurd rfl hne
    · exact .inr (.inl ⟨rfl, rfl⟩)
  | step f inp oc => exact .inr (.inr ⟨⟨f, inp, oc, rfl⟩, execStep_phase hp h hne⟩)
  | query q => obtain ⟨r, rfl⟩ := execQuery_next h; exact absurd rfl hne
  | reservedOp67 w => cases h; exact absurd rfl hne
  | reservedOp8F w => cases h; exact absurd rfl hne
  | lit b => exact (runItem_between hp h).elim
  | matchItem l d => exact (runItem_between hp h).elim
  | eos x => exact (runItem_between hp h).elim
  | oneshot p src cap want => exact absurd (execOneshot_phase h) hne

end Sys2Proof.Machine
end

section
/-! SUPPORT. The micro-steps of an item as paths: the fields' from the item boundary to EMIT, COPY or TAIL, and those
after them to the next boundary (`43_decode_driver.md` R229-R231); what `readFields` and `finishItem` answer, in terms of
these paths. -/

namespace Sys2Proof.Machine

variable {s t u v : State} {m : Micro} {n : Nat}

/-! ### Where micro-steps lead -/

/-- Inside an item's fields, past the control symbol. -/
def State.inFields (s : State) : Prop :=
  s.dstate = .lit ∨ s.dstate = .len ∨ s.dstate = .slot ∨ s.dstate = .extra ∨ s.dstate = .csum

theorem State.inFields.before (hs : s.inFields) : s.dstate ≠ .ctrl ∧ s.fieldsRead = false := by
  rcases hs with hd | hd | hd | hd | hd <;> simp [State.fieldsRead, hd]

theorem fieldsRead_of_ctrl (hd : s.dstate = .ctrl) : s.fieldsRead = false := by simp [State.fieldsRead, hd]

theorem ne_ctrl_of_fieldsRead (hs : s.fieldsRead = true) : s.dstate ≠ .ctrl := fun hd => by
  simp [fieldsRead_of_ctrl hd] at hs

/-- Before an item's fields are read nothing is produced. -/
theorem not_producing (hs : s.fieldsRead = false) : s.dstate ≠ .emit ∧ s.dstate ≠ .copy :=
  ⟨fun hd => by simp [State.fieldsRead, hd] at hs, fun hd => by simp [State.fieldsRead, hd] at hs⟩

/-- At the item boundary a renormalisation stays there, and the control decode goes on into the fields. -/
theorem microStep_ctrl_cont (hd : s.dstate = .ctrl) (h : microStep s = .cont t) :
    (s.range.toNat < 2 ^ 24 ∧ t.dstate = .ctrl) ∨ (2 ^ 24 ≤ s.range.toNat ∧ t.inFields) := by
  cases hn : s.needsNorm with
  | true =>
    rw [microStep_norm (.inl hd) hn] at h
    rcases msNorm_cases s with ⟨-, hm⟩ | ⟨-, hm⟩ <;> rw [hm] at h
    · cases h; exact .inl ⟨needsNorm_eq_true.mp hn, hd⟩
    · rcases needIn_cases s with ⟨-, hm⟩ | ⟨-, hm⟩ <;> cases hm.symm.trans h
  | false =>
    refine .inr ⟨needsNorm_eq_false.mp hn, ?_⟩
    rw [microStep_ctrl hd hn] at h
    rcases msCtrl_cases s with ⟨-, hm⟩ | ⟨sym, w, -, ⟨-, hm⟩ | ⟨-, hm⟩ | ⟨-, hm⟩⟩ <;> cases hm.symm.trans h <;>
      simp [State.inFields]

/-- Inside the fields a micro-step stays there or reads the last one. -/
theorem microStep_fields_cont (hs : s.inFields) (h : microStep s = .cont t) : t.inFields ∨ t.fieldsRead = true := by
  cases microStep_cases h with
  | renormalised => exact .inl hs
  | extraBit hd | csumBit hd => exact .inl (by simp [State.inFields, hd.1])
  | length | slotExtra => exact .inl (by simp [State.inFields])
  | literal | slotNear | extraDone | csumDone => exact .inr (by simp [State.fieldsRead])
  | loaded hd | loadedLast hd | emitted hd | copied hd | copiedLast hd => simp [State.inFields, hd] at hs
  | ctrlLit d hd | ctrlMatch d hd | ctrlEos d hd => simp [State.inFields, hd.at_dstate, Ctx.dstate] at hs

/-- The failures of the checks after the last field (`60_exceptions.md` R310). -/
abbrev Status.failsLastField (c : Status) : Prop := c = .corruptDistance ∨ c = .checksum

theorem microStep_lastField_fails {c : Status} (hc : c.failsLastField) (h : microStep s = .stop c t) :
    s.inFields := by
  cases microStep_cases h with
  | slotBad d hd => simp [State.inFields, hd.at_dstate, Ctx.dstate]
  | extraBad hd | csumBad hd => simp [State.inFields, hd.1]
  | _ => exact absurd hc (by decide)

/-! ### Reading the fields -/

/-- `v` ends an item's fields with the outcome `m`: it is past them, or its micro-step fails the last field's check. -/
def State.endsFields (v : State) (m : Micro) : Prop :=
  (v.fieldsRead = true ∧ m = .cont v)
  ∨ (v.fieldsRead = false ∧ ∃ c w, c.failsLastField ∧ microStep v = .stop c w ∧ m = .stop c w)

theorem readFields_last (h : microStep s = .cont t) (ht : t.fieldsRead = true) :
    readFields (n + 1) s = some (.cont t) := by
  simp [readFields, h, ht]

theorem readFields_more (h : microStep s = .cont t) (ht : t.fieldsRead = false) :
    readFields (n + 1) s = readFields n t := by
  simp [readFields, h, ht]

theorem readFields_fails {c : Status} (hc : c.failsLastField) (h : microStep s = .stop c t) :
    readFields (n + 1) s = some (.stop c t) := by
  rcases hc with rfl | rfl <;> simp [readFields, h]

/-- Reading the fields takes one micro-step: it reads the last, or goes on, or fails the last one's check. -/
theorem readFields_cases (h : readFields (n + 1) s = some m) :
    (∃ t, microStep s = .cont t ∧
      ((t.fieldsRead = true ∧ m = .cont t) ∨ (t.fieldsRead = false ∧ readFields n t = some m)))
    ∨ ∃ c t, c.failsLastField ∧ microStep s = .stop c t ∧ m = .stop c t := by
  simp only [readFields] at h
  split at h
  · rename_i t ht
    split at h
    · cases h; exact .inl ⟨t, ht, .inl ⟨‹_›, rfl⟩⟩
    · exact .inl ⟨t, ht, .inr ⟨Bool.eq_false_iff.mpr ‹_›, h⟩⟩
  · cases h; exact .inr ⟨_, _, .inl rfl, ‹_›, rfl⟩
  · cases h; exact .inr ⟨_, _, .inr rfl, ‹_›, rfl⟩
  · cases h

/-- From inside the fields, what is read is where micro-steps lead without leaving them. -/
theorem readFields_path (hs : s.inFields) (h : readFields n s = some m) :
    ∃ b v, microAfter b s = some v ∧ v.endsFields m ∧ ∀ j w, j < b → microAfter j s = some w → w.inFields := by
  induction n generalizing s with
  | zero => cases h
  | succ n ih =>
    rcases readFields_cases h with ⟨t, ht, ⟨hread, rfl⟩ | ⟨hread, h⟩⟩ | ⟨c, t, hc, ht, rfl⟩
    · refine ⟨1, t, microAfter_cont 0 ht, .inl ⟨hread, rfl⟩, fun j w hj hw => ?_⟩
      obtain rfl : j = 0 := by omega
      cases hw; exact hs
    · obtain ⟨b, v, hv, hend, hpath⟩ := ih ((microStep_fields_cont hs ht).resolve_right (by simp [hread])) h
      refine ⟨b + 1, v, (microAfter_cont b ht).trans hv, hend, fun j w hj hw => ?_⟩
      cases j with
      | zero => cases hw; exact hs
      | succ j => exact hpath j w (by omega) ((microAfter_cont j ht).symm.trans hw)
    · exact ⟨0, s, rfl, .inr ⟨hs.before.2, c, t, hc, ht, rfl⟩, fun j w hj => by omega⟩

/-- A renormalisation at the item boundary comes before the fields of what follows it. -/
theorem FieldPath.cons {a b : Nat} (hd : s.dstate = .ctrl) (hr : s.range.toNat < 2 ^ 24) (h : microStep s = .cont t)
    (hp : FieldPath a b t v) : FieldPath (a + 1) b s v := by
  obtain ⟨hb, hv, hnorm, hdecode, hfields⟩ := hp
  refine ⟨hb, ?_, fun j w hj hw => ?_, fun w hw => ?_, fun j w haj hj hw => ?_⟩
  · rw [Nat.add_right_comm, microAfter_cont _ h]
    exact hv
  · cases j with
    | zero => cases hw; exact ⟨hd, hr⟩
    | succ j => exact hnorm j w (by omega) ((microAfter_cont j h).symm.trans hw)
  · exact hdecode w ((microAfter_cont a h).symm.trans hw)
  · obtain ⟨j, rfl⟩ := Nat.exists_eq_succ_of_ne_zero (Nat.ne_zero_of_lt haj)
    exact hfields j w (by omega) (by omega) ((microAfter_cont j h).symm.trans hw)

/-- From the item boundary, what is read is at the end of the fields' path. -/
theorem readFields_fieldPath (hd : s.dstate = .ctrl) (h : readFields n s = some m) :
    ∃ a b v, FieldPath a b s v ∧ v.endsFields m := by
  induction n generalizing s with
  | zero => cases h
  | succ n ih =>
    rcases readFields_cases h with ⟨t, ht, hread⟩ | ⟨c, t, hc, ht, rfl⟩
    · rcases microStep_ctrl_cont hd ht with ⟨hr, hdt⟩ | ⟨hr, hin⟩
      · obtain ⟨-, h⟩ := hread.resolve_left (by simp [fieldsRead_of_ctrl hdt])
        obtain ⟨a, b, v, hpath, hend⟩ := ih hdt h
        exact ⟨a + 1, b, v, hpath.cons hd hr ht, hend⟩
      · obtain ⟨-, h⟩ := hread.resolve_left (by simp [hin.before.2])
        obtain ⟨b, v, hv, hend, hpath⟩ := readFields_path hin h
        refine ⟨0, b + 1, v, ⟨by omega, ?_, fun j w hj => by omega, ?_, fun j w hj hjb hw => ?_⟩, hend⟩
        · rw [Nat.zero_add, microAfter_cont b ht]
          exact hv
        · rintro w ⟨⟩
          exact ⟨hd, hr⟩
        · obtain ⟨j, rfl⟩ := Nat.exists_eq_succ_of_ne_zero (Nat.ne_zero_of_lt hj)
          exact (hpath j w (by omega) ((microAfter_cont j ht).symm.trans hw)).before
    · exact absurd hd (microStep_lastField_fails hc ht).before.1

/-- What lies at the end of a path on which no state is past the fields is read, within enough micro-steps. -/
theorem readFields_of_path {k : Nat} (hv : microAfter (k + 1) s = some v)
    (hpath : ∀ j w, 0 < j → j < k + 1 → microAfter j s = some w → w.fieldsRead = false) (hend : v.endsFields m)
    (hn : k + 2 ≤ n) : readFields n s = some m := by
  obtain ⟨n, rfl⟩ := Nat.exists_eq_add_of_le' hn
  induction k generalizing s with
  | zero =>
    obtain ⟨t, ht, hv⟩ := microAfter_succ_cases hv
    cases hv
    rcases hend with ⟨hread, rfl⟩ | ⟨hread, c, w, hc, hw, rfl⟩
    · exact readFields_last ht hread
    · exact (readFields_more ht hread).trans (readFields_fails hc hw)
  | succ k ih =>
    obtain ⟨t, ht, hv⟩ := microAfter_succ_cases hv
    have hread : t.fieldsRead = false := hpath 1 t (by omega) (by omega) (microAfter_cont 0 ht)
    refine (readFields_more ht hread).trans (ih hv (fun j w hj hjk hw => ?_) (by omega))
    exact hpath (j + 1) w (by omega) (by omega) ((microAfter_cont j ht).trans hw)

theorem FieldPath.start {a b : Nat} (h : FieldPath a b s v) : s.dstate = .ctrl := by
  obtain ⟨-, -, hnorm, hdecode, -⟩ := h
  cases a with
  | zero => exact (hdecode s rfl).1
  | succ a => exact (hnorm 0 s (by omega) rfl).1

/-- No state of a path before its end is past the fields. -/
theorem FieldPath.before {a b j : Nat} {w : State} (h : FieldPath a b s v) (hj : j < a + b)
    (hw : microAfter j s = some w) : w.fieldsRead = false := by
  obtain ⟨-, -, hnorm, hdecode, hfields⟩ := h
  rcases Nat.lt_trichotomy j a with hlt | rfl | hgt
  · exact fieldsRead_of_ctrl (hnorm j w hlt hw).1
  · exact fieldsRead_of_ctrl (hdecode w hw).1
  · exact (hfields j w hgt hj hw).2

/-- Micro-steps before the end of an item's fields produce nothing. -/
theorem microAfter_out_eq {k : Nat} (h : microAfter k s = some t)
    (hpath : ∀ j w, j < k → microAfter j s = some w → w.fieldsRead = false) : t.out = s.out := by
  induction k generalizing s with
  | zero => cases h; rfl
  | succ k ih =>
    obtain ⟨u, hu, h⟩ := microAfter_succ_cases h
    obtain ⟨hemit, hcopy⟩ := not_producing (hpath 0 s (by omega) rfl)
    obtain ⟨-, -, -, -, hout⟩ := microStep_history_frame hu hemit hcopy
    exact (ih h fun j w hj hw => hpath (j + 1) w (by omega) ((microAfter_cont j hu).trans hw)).trans hout

/-- Each micro-step that continues takes one off the measure. -/
theorem microAfter_stepsLeft {k : Nat} (h : microAfter k s = some t) : t.stepsLeft 32 + k ≤ s.stepsLeft 32 := by
  induction k generalizing s with
  | zero => cases h; exact Nat.le_refl _
  | succ k ih =>
    obtain ⟨u, hu, h⟩ := microAfter_succ_cases h
    have hlt : u.stepsLeft 32 < s.stepsLeft 32 := stepsLeft_lt hu fun _ => countdown_le u.xbits
    have hle := ih h
    omega

/-- The bound on reading an item is past every path of fields. -/
theorem FieldPath.length_lt {a b : Nat} (h : FieldPath a b s v) : a + b < loopBound s.input 0 := by
  have hd := h.start
  have hbefore := fun j w => FieldPath.before (j := j) (w := w) h
  obtain ⟨-, hv, -⟩ := h
  have hout := microAfter_out_eq hv hbefore
  obtain ⟨hinput, hocap, -⟩ := microAfter_frame hv
  have hle := microAfter_stepsLeft hv
  have hlocal : s.localSteps 32 = 36 := by simp [State.localSteps, hd]
  rw [State.stepsLeft, State.stepsLeft, hinput, hocap, hout, hlocal] at hle
  rw [loopBound]
  omega

/-- Reading an item's fields, from the item boundary, as a path. -/
theorem readFields_iff_fieldPath (hd : s.dstate = .ctrl) :
    readFields (loopBound s.input 0) s = some m ↔ ∃ a b v, FieldPath a b s v ∧ v.endsFields m := by
  refine ⟨readFields_fieldPath hd, fun ⟨a, b, v, hpath, hend⟩ => ?_⟩
  have hlt := hpath.length_lt
  have hbefore := fun j w => FieldPath.before (j := j) (w := w) hpath
  obtain ⟨hb, hv, -⟩ := hpath
  obtain ⟨k, hk⟩ := Nat.exists_eq_add_of_le' (show 1 ≤ a + b by omega)
  rw [hk] at hv hbefore hlt
  exact readFields_of_path hv (fun j w _ hj => hbefore j w hj) hend hlt

/-! ### Finishing the item -/

/-- The micro-steps left of an item whose fields are read, at most. -/
def State.bodySteps (s : State) : Nat :=
  s.input.length - s.ipos + if s.dstate = .copy then countdown s.mlen else 1

theorem one_le_bodySteps (s : State) : 1 ≤ s.bodySteps := by
  unfold State.bodySteps countdown
  split <;> omega

/-- Past the fields a micro-step ends the item or comes nearer to its end. -/
theorem microStep_body_cont (hs : s.fieldsRead = true) (h : microStep s = .cont t) :
    t.dstate = .ctrl ∨ (t.fieldsRead = true ∧ t.bodySteps < s.bodySteps) := by
  cases microStep_cases h with
  | emitted | copiedLast | loadedLast => exact .inl rfl
  | renormalised hd hn ha =>
    refine .inr ⟨hs, ?_⟩
    have hlt := inAvail_eq_true.mp ha
    exact Nat.add_lt_add_right (show s.input.length - (s.ipos + 1) < s.input.length - s.ipos by omega) _
  | copied hd ho ht hm =>
    have hcount := countdown_sub_one hm
    refine .inr ⟨hs, ?_⟩
    simp only [State.bodySteps, produced_dstate, hd, if_true, produced_input, produced_ipos]
    omega
  | loaded hd => simp [State.fieldsRead, hd] at hs
  | ctrlLit d hd | ctrlMatch d hd | ctrlEos d hd | literal d hd | length d hd | slotNear d hd | slotExtra d hd =>
    simp [State.fieldsRead, hd.at_dstate, Ctx.dstate] at hs
  | extraBit hd | extraDone hd | csumBit hd | csumDone hd => simp [State.fieldsRead, hd.1] at hs

/-- Finishing an item is the micro-step that a path with no item boundary leads to. -/
theorem finishItem_path (hs : s.fieldsRead = true) (hn : s.bodySteps ≤ n) :
    ∃ k v, BodyPath k s v ∧ v.fieldsRead = true ∧ finishItem n s = microStep v
      ∧ ∀ t, microStep v = .cont t → t.dstate = .ctrl := by
  induction n generalizing s with
  | zero => exact absurd (one_le_bodySteps s) (by omega)
  | succ n ih =>
    by_cases hgo : ∃ t, microStep s = .cont t ∧ t.dstate ≠ .ctrl
    · obtain ⟨t, ht, hdt⟩ := hgo
      obtain ⟨hread, hlt⟩ := (microStep_body_cont hs ht).resolve_left hdt
      obtain ⟨k, v, ⟨hv, hpath⟩, hend⟩ := ih hread (by omega)
      refine ⟨k + 1, v, ⟨(microAfter_cont k ht).trans hv, fun j w hj hw => ?_⟩, ?_⟩
      · cases j with
        | zero => cases hw; exact ne_ctrl_of_fieldsRead hs
        | succ j => exact hpath j w (by omega) ((microAfter_cont j ht).symm.trans hw)
      · simpa only [finishItem, ht, if_neg hdt] using hend
    · have hctrl : ∀ t, microStep s = .cont t → t.dstate = .ctrl := fun t ht => by_contra fun hd => hgo ⟨t, ht, hd⟩
      refine ⟨0, s, ⟨rfl, fun j w hj => by omega⟩, hs, ?_, hctrl⟩
      simp only [finishItem]
      split
      · rename_i t ht
        rw [if_pos (hctrl t ht), ht]
      · rfl

theorem finishItem_finishBound (hs : s.fieldsRead = true) :
    ∃ k v, BodyPath k s v ∧ v.fieldsRead = true ∧ finishItem (finishBound s) s = microStep v
      ∧ ∀ t, microStep v = .cont t → t.dstate = .ctrl := by
  refine finishItem_path hs ?_
  have hcount : countdown s.mlen ≤ 512 := countdown_le _
  unfold State.bodySteps finishBound
  split <;> omega

end Sys2Proof.Machine
end

section
/-! CLAIM. O57: an item is its fields' micro-steps and those after them (`43_decode_driver.md` R229-R231, R210, R211,
R214). -/

namespace Sys2Proof.Machine

variable {s t u w : State} {i : Instr} {c : Status}

/-- What the stream holds next, as the path of its fields: read whole. -/
theorem readItem_cont_iff (hp : s.phase = .decoding) :
    readItem s = some (i, .cont u) ↔ i = u.itemRead ∧ u.fieldsRead = true ∧ ∃ a b, FieldPath a b s u := by
  constructor
  · intro h
    obtain ⟨-, hd⟩ := readItem_boundary h
    obtain ⟨t, ht, hi, hread⟩ | ⟨c, t, ht, -⟩ := readItem_cases h <;> cases ht
    obtain ⟨a, b, v, hpath, ⟨hv, hcont⟩ | ⟨-, c, w, -, -, hstop⟩⟩ := (readFields_iff_fieldPath hd).mp hread
    · cases hcont; exact ⟨hi, hv, a, b, hpath⟩
    · cases hstop
  · rintro ⟨rfl, hu, a, b, hpath⟩
    have hread := (readFields_iff_fieldPath hpath.start).mpr ⟨a, b, u, hpath, .inl ⟨hu, rfl⟩⟩
    simp only [readItem, hp, hpath.start, hread, and_self, if_true]

/-- What the stream holds next, as the path of its fields: read up to the last one's check, which fails. -/
theorem readItem_stop_iff (hp : s.phase = .decoding) :
    readItem s = some (i, .stop c w) ↔ i = w.itemRead ∧ (c = .corruptDistance ∨ c = .checksum)
      ∧ ∃ a b v, FieldPath a b s v ∧ v.fieldsRead = false ∧ microStep v = .stop c w := by
  constructor
  · intro h
    obtain ⟨-, hd⟩ := readItem_boundary h
    obtain ⟨t, ht, -⟩ | ⟨c, t, ht, hi, hread⟩ := readItem_cases h <;> cases ht
    obtain ⟨a, b, v, hpath, ⟨-, hcont⟩ | ⟨hv, c, w, hc, hm, hstop⟩⟩ := (readFields_iff_fieldPath hd).mp hread
    · cases hcont
    · cases hstop; exact ⟨hi, hc, a, b, v, hpath, hv, hm⟩
  · rintro ⟨rfl, hc, a, b, v, hpath, hv, hm⟩
    have hread := (readFields_iff_fieldPath hpath.start).mpr ⟨a, b, v, hpath, .inr ⟨hv, c, w, hc, hm, rfl⟩⟩
    simp only [readItem, hp, hpath.start, hread, and_self, if_true]

/-- Executing an item that was read whole. -/
theorem exec_of_read (hp : s.phase = .decoding) (h : readItem s = some (i, .cont u)) :
    exec i s = closeMicro (finishItem (finishBound u) u) := by
  obtain ⟨rfl, -⟩ := (readItem_cont_iff hp).mp h
  rw [exec_itemRead, runItem_of_read h]

/-- Executing an item whose last field's check fails ends the STEP. -/
theorem exec_of_read_stop (hp : s.phase = .decoding) (h : readItem s = some (i, .stop c w)) :
    exec i s = .next (endStep c w) := by
  obtain ⟨rfl, -⟩ := (readItem_stop_iff hp).mp h
  rw [exec_itemRead, runItem_of_read h]
  rfl

theorem microAfter_phase {k : Nat} (h : microAfter k s = some t) : t.phase = s.phase := by
  induction k generalizing s with
  | zero => cases h; rfl
  | succ k ih =>
    obtain ⟨u, hu, h⟩ := microAfter_succ_cases h
    exact (ih h).trans (microStep_cont_phase hu)

/-- Past an item's fields the one fault is that of `TOTAL_OUT`. -/
theorem microStep_body_fault {f : Fault} (hs : s.fieldsRead = true) (h : microStep s = .fault f) :
    f = .totalOutOverflow := by
  cases microStep_cases h with
  | overflow => rfl
  | ended hd => simp [State.fieldsRead, hd] at hs

/-- Settles O57: `readItem` follows the fields' path and `finishItem` the body's, each within its bound. -/
theorem itemsAreMicroSteps : Obligations.ItemsAreMicroSteps := by
  refine fun s i _ hp => ⟨fun u => readItem_cont_iff hp, fun c w => readItem_stop_iff hp, fun u h => ?_,
    fun c w h => exec_of_read_stop hp h⟩
  obtain ⟨-, hread, a, b, hfields⟩ := (readItem_cont_iff hp).mp h
  obtain ⟨k, v, ⟨hv, hbody⟩, hend, hfinish, hctrl⟩ := finishItem_finishBound hread
  have hne := ne_ctrl_of_fieldsRead hend
  rw [exec_of_read hp h, hfinish]
  cases hm : microStep v with
  | cont t =>
    obtain ⟨-, hu, -⟩ := hfields
    have hphase : t.phase = .decoding :=
      (microStep_cont_phase hm).trans ((microAfter_phase hv).trans ((microAfter_phase hu).trans hp))
    refine .inl ⟨k + 1, t, by omega, ⟨microAfter_join hv (microAfter_cont 0 hm), fun j w hj hw => ?_⟩, hctrl t hm,
      hphase, rfl⟩
    rcases Nat.lt_succ_iff_lt_or_eq.mp hj with hlt | rfl
    · exact hbody j w hlt hw
    · cases hv.symm.trans hw
      exact hne
  | stop c t => exact .inr (.inl ⟨k, v, c, t, ⟨hv, hbody⟩, hne, hm, rfl⟩)
  | fault f =>
    obtain rfl := microStep_body_fault hend hm
    exact .inr (.inr ⟨k, v, ⟨hv, hbody⟩, hne, hm, rfl⟩)

end Sys2Proof.Machine
end

section
/-! SUPPORT. What reading an item leaves, field by field: `InFields s v` says how a state `v` inside the item that
starts in `s` differs from it, and `FieldsOutcome s m` what the item's last field leaves (`43_decode_driver.md`
R229-R231). -/

namespace Sys2Proof.Machine

/-- The coder and the input position of a later state. -/
def State.readTo (rg cd : Word) (ip : Nat) (s : State) : State := { s with range := rg, code := cd, ipos := ip }

/-- After the control symbol `k`, in the sub-state `ds`. -/
def State.afterCtrl (k : Nat) (ds : DState) (s : State) : State :=
  { s with freq := { s.freq with ctrl := updated s.cfgRate.toNat s.freq.ctrl k }, dstate := ds }

/-- After a literal's fields (`43_decode_driver.md` R229). -/
def State.afterLit (b : Byte) (s : State) : State :=
  { s with
    freq := { s.freq with
      ctrl := updated s.cfgRate.toNat s.freq.ctrl 0, lit := updated s.cfgRate.toNat s.freq.lit b.toNat }
    pendByte := b
    dstate := .emit }

/-- After a match's length (`43_decode_driver.md` R230). -/
def State.afterLen (len : BitVec 9) (s : State) : State :=
  { s with
    freq := { s.freq with
      ctrl := updated s.cfgRate.toNat s.freq.ctrl 1, len := updated s.cfgRate.toNat s.freq.len (len.toNat - 2) }
    mlen := len
    dstate := .slot }

/-- After a match's slot and some of its extra bits, `x` to come: the slot is that of the whole distance
(`43_decode_driver.md` R230). -/
def State.afterSlot (len : BitVec 9) (dist : Word) (x : BitVec 5) (ds : DState) (s : State) : State :=
  { s with
    freq := { s.freq with
      ctrl := updated s.cfgRate.toNat s.freq.ctrl 1
      len := updated s.cfgRate.toNat s.freq.len (len.toNat - 2)
      slot := updated s.cfgRate.toNat s.freq.slot (dist.toNat.log2 + x.toNat) }
    mlen := len
    mdist := dist
    xbits := x
    dstate := ds }

/-- After some bits of the stored checksum, `n` to come (`43_decode_driver.md` R231). -/
def State.afterStored (x : Word) (n : BitVec 6) (ds : DState) (s : State) : State :=
  { s with
    freq := { s.freq with ctrl := updated s.cfgRate.toNat s.freq.ctrl 2 }
    csumStored := x
    csumCnt := n
    dstate := ds }

/-- The states inside the item that starts in `s`, by the fields read so far. -/
inductive InFields (s : State) : State → Prop
  | ctrl {rg cd : Word} {ip : Nat} (hd : s.dstate = .ctrl) (hip : s.ipos ≤ ip) : InFields s (s.readTo rg cd ip)
  | lit {rg cd : Word} {ip : Nat} (hip : s.ipos ≤ ip) : InFields s ((s.readTo rg cd ip).afterCtrl 0 .lit)
  | len {rg cd : Word} {ip : Nat} (hip : s.ipos ≤ ip) : InFields s ((s.readTo rg cd ip).afterCtrl 1 .len)
  | slot {rg cd : Word} {ip : Nat} (hip : s.ipos ≤ ip) (len : BitVec 9) :
      InFields s ((s.readTo rg cd ip).afterLen len)
  | extra {rg cd : Word} {ip : Nat} (hip : s.ipos ≤ ip) (len : BitVec 9) (dist : Word) (x : BitVec 5) :
      InFields s ((s.readTo rg cd ip).afterSlot len dist x .extra)
  | csum {rg cd : Word} {ip : Nat} (hip : s.ipos ≤ ip) (x : Word) (n : BitVec 6) :
      InFields s ((s.readTo rg cd ip).afterStored x n .csum)

/-- The outcomes of the last field of the item that starts in `s`. -/
inductive FieldsOutcome (s : State) : Micro → Prop
  | lit {rg cd : Word} {ip : Nat} (hip : s.ipos ≤ ip) (b : Byte) :
      FieldsOutcome s (.cont ((s.readTo rg cd ip).afterLit b))
  | matchNear {rg cd : Word} {ip : Nat} (hip : s.ipos ≤ ip) (len : BitVec 9) (dist : Word) :
      FieldsOutcome s (.cont ((s.readTo rg cd ip).afterSlot len dist 0 .copy))
  | matchBad {rg cd : Word} {ip : Nat} (hip : s.ipos ≤ ip) (len : BitVec 9) (dist : Word) {ds : DState}
      (hd : ds = .slot ∨ ds = .extra) :
      FieldsOutcome s (raiseFail .corruptDistance ((s.readTo rg cd ip).afterSlot len dist 0 ds))
  | eos {rg cd : Word} {ip : Nat} (hip : s.ipos ≤ ip) (hrg : 2 ^ 23 ≤ rg.toNat) (x : Word) :
      FieldsOutcome s (.cont ((s.readTo rg cd ip).afterStored x 0 .tail))
  | eosBad {rg cd : Word} {ip : Nat} (hip : s.ipos ≤ ip) (x : Word) :
      FieldsOutcome s (raiseFail .checksum ((s.readTo rg cd ip).afterStored x 0 .csum))

variable {s v t : State}

/-! ### The fields read so far, by the sub-state -/

theorem InFields.at_ctrl (h : InFields s v) (hd : v.dstate = .ctrl) :
    ∃ rg cd ip, s.ipos ≤ ip ∧ v = s.readTo rg cd ip := by
  cases h with
  | ctrl _ hip => exact ⟨_, _, _, hip, rfl⟩
  | _ => cases hd

theorem InFields.at_lit (h : InFields s v) (hd : v.dstate = .lit) :
    ∃ rg cd ip, s.ipos ≤ ip ∧ v = (s.readTo rg cd ip).afterCtrl 0 .lit := by
  cases h with
  | lit hip => exact ⟨_, _, _, hip, rfl⟩
  | ctrl hc => cases hc.symm.trans hd
  | _ => cases hd

theorem InFields.at_len (h : InFields s v) (hd : v.dstate = .len) :
    ∃ rg cd ip, s.ipos ≤ ip ∧ v = (s.readTo rg cd ip).afterCtrl 1 .len := by
  cases h with
  | len hip => exact ⟨_, _, _, hip, rfl⟩
  | ctrl hc => cases hc.symm.trans hd
  | _ => cases hd

theorem InFields.at_slot (h : InFields s v) (hd : v.dstate = .slot) :
    ∃ rg cd ip len, s.ipos ≤ ip ∧ v = (s.readTo rg cd ip).afterLen len := by
  cases h with
  | slot hip len => exact ⟨_, _, _, _, hip, rfl⟩
  | ctrl hc => cases hc.symm.trans hd
  | _ => cases hd

theorem InFields.at_extra (h : InFields s v) (hd : v.dstate = .extra) :
    ∃ rg cd ip len dist x, s.ipos ≤ ip ∧ v = (s.readTo rg cd ip).afterSlot len dist x .extra := by
  cases h with
  | extra hip len dist x => exact ⟨_, _, _, _, _, _, hip, rfl⟩
  | ctrl hc => cases hc.symm.trans hd
  | _ => cases hd

theorem InFields.at_csum (h : InFields s v) (hd : v.dstate = .csum) :
    ∃ rg cd ip x n, s.ipos ≤ ip ∧ v = (s.readTo rg cd ip).afterStored x n .csum := by
  cases h with
  | csum hip x n => exact ⟨_, _, _, _, _, hip, rfl⟩
  | ctrl hc => cases hc.symm.trans hd
  | _ => cases hd

/-- The fields are read in CTRL, LIT, LEN, SLOT, EXTRA and CSUM. -/
theorem InFields.dstate (h : InFields s v) : v.dstate = .ctrl ∨ v.inFields := by
  cases h with
  | ctrl hd => exact .inl hd
  | lit | len | slot | extra | csum => exact .inr (by simp [State.inFields, State.afterCtrl, State.afterLen,
      State.afterSlot, State.afterStored])

/-- A renormalisation only moves the coder and the input position on. -/
theorem InFields.rcNorm (h : InFields s v) : InFields s (rcNorm v) := by
  cases h with
  | ctrl hd hip => exact .ctrl hd (Nat.le_succ_of_le hip)
  | lit hip => exact .lit (Nat.le_succ_of_le hip)
  | len hip => exact .len (Nat.le_succ_of_le hip)
  | slot hip len => exact .slot (Nat.le_succ_of_le hip) len
  | extra hip len dist x => exact .extra (Nat.le_succ_of_le hip) len dist x
  | csum hip x n => exact .csum (Nat.le_succ_of_le hip) x n

/-! ### One more field -/

/-- A distance with one more bit has a slot one higher. -/
theorem log2_two_mul_add_bit {d bit : Nat} (hd : 1 ≤ d) (hbit : bit < 2) : (2 * d + bit).log2 = d.log2 + 1 := by
  rw [Nat.log2_def, if_pos (by omega), show (2 * d + bit) / 2 = d by omega]

/-- Each extra bit goes from the bits to come into the distance. -/
theorem slot_of_extraBit (hc : v.configOk) (hm : v.matchOk) (hd : v.dstate = .extra) (hp : v.phase = .decoding)
    {bit : Nat} (hbit : bit < 2) :
    (distanceWithBit v.mdist bit).toNat.log2 + (v.xbits - 1).toNat = v.mdist.toNat.log2 + v.xbits.toNat := by
  obtain ⟨-, hpos, -, hrunning⟩ := hm.atExtra hd
  have hx : 1 ≤ v.xbits.toNat := hrunning (by simp [hp])
  rw [distanceWithBit_toNat (distance_lt_of_matchOk hc hm) hbit, log2_two_mul_add_bit hpos hbit, sub_one_toNat hx]
  omega

/-- The state after one more extra bit: only the coder, the distance and the bits to come have changed. -/
theorem InFields.extraBit {bit : Nat} {rg' cd' : Word} (hf : InFields s v) (hp : v.phase = .decoding) (hl : v.live)
    (hd : v.dstate = .extra) (hbit : decodeDirect v = some (bit, v.setCoder rg' cd')) (ds : DState) :
    ∃ ip len, s.ipos ≤ ip
      ∧ (withDistance (distanceWithBit v.mdist bit) (v.xbits - 1) (v.setCoder rg' cd')).goto ds
        = (s.readTo rg' cd' ip).afterSlot len (distanceWithBit v.mdist bit) (v.xbits - 1) ds := by
  have hinv := hl.inv hp
  obtain ⟨-, hlt, -⟩ := decodeDirect_cases hbit
  have hslot := slot_of_extraBit (hinv.configOk hp) (hinv.matchOk hp) hd hp hlt
  obtain ⟨rg, cd, ip, len, dist, x, hip, rfl⟩ := hf.at_extra hd
  refine ⟨ip, len, hip, ?_⟩
  have hslot : (distanceWithBit dist bit).toNat.log2 + (x - 1).toNat = dist.toNat.log2 + x.toNat := hslot
  show _ = (s.readTo rg' cd' ip).afterSlot len (distanceWithBit dist bit) (x - 1) ds
  simp only [State.afterSlot, hslot]
  rfl

theorem goto_self {d : DState} (h : s.dstate = d) : s.goto d = s := by
  subst h
  rfl

/-- A micro-step inside the item's fields reads on, or reads the last. -/
theorem InFields.cont (hf : InFields s v) (hp : v.phase = .decoding) (hl : v.live) (h : microStep v = .cont t) :
    InFields s t ∨ FieldsOutcome s (.cont t) := by
  have hinv := hl.inv hp
  have hc := hinv.configOk hp
  have hb := hinv.bankOk hp
  have hm := hinv.matchOk hp
  cases microStep_cases h with
  | renormalised => exact .inl hf.rcNorm
  | ctrlLit d hd hs =>
    obtain ⟨rg, cd, ip, hip, rfl⟩ := hf.at_ctrl hd.at_dstate
    have hlit : InFields s ((s.readTo d.range d.code ip).afterCtrl 0 .lit) := .lit hip
    rw [← hs] at hlit
    exact .inl hlit
  | ctrlMatch d hd hs =>
    obtain ⟨rg, cd, ip, hip, rfl⟩ := hf.at_ctrl hd.at_dstate
    have hlen : InFields s ((s.readTo d.range d.code ip).afterCtrl 1 .len) := .len hip
    rw [← hs] at hlen
    exact .inl hlen
  | ctrlEos d hd hs =>
    obtain ⟨rg, cd, ip, hip, rfl⟩ := hf.at_ctrl hd.at_dstate
    have hsym : d.sym < 3 := symbolNext_sym_lt hb hd
    have hcsum : InFields s ((s.readTo d.range d.code ip).afterStored 0 32 .csum) := .csum hip 0 32
    rw [State.afterStored, show 2 = d.sym by omega] at hcsum
    exact .inl hcsum
  | literal d hd =>
    obtain ⟨rg, cd, ip, hip, rfl⟩ := hf.at_lit hd.at_dstate
    have hlit : FieldsOutcome s (.cont ((s.readTo d.range d.code ip).afterLit (literalOf d.sym))) := .lit hip _
    rw [State.afterLit, literalOf_toNat (symbolNext_sym_lt hb hd)] at hlit
    exact .inr hlit
  | length d hd =>
    obtain ⟨rg, cd, ip, hip, rfl⟩ := hf.at_len hd.at_dstate
    have hslot : InFields s ((s.readTo d.range d.code ip).afterLen (lengthOf d.sym)) := .slot hip _
    rw [State.afterLen, lengthOf_toNat (symbolNext_sym_lt hb hd), Nat.add_sub_cancel] at hslot
    exact .inl hslot
  | slotNear d hd hs =>
    obtain ⟨rg, cd, ip, len, hip, rfl⟩ := hf.at_slot hd.at_dstate
    have hnear : FieldsOutcome s (.cont ((s.readTo d.range d.code ip).afterSlot len 1 0 .copy)) := .matchNear hip _ _
    rw [State.afterSlot, show (1 : Word).toNat.log2 + (0 : BitVec 5).toNat = d.sym from hs.symm] at hnear
    exact .inr hnear
  | slotExtra d hd hs =>
    have hx := slotBits_toNat hc hb hd
    obtain ⟨rg, cd, ip, len, hip, rfl⟩ := hf.at_slot hd.at_dstate
    have hextra : InFields s ((s.readTo d.range d.code ip).afterSlot len 1 (BitVec.ofNat 5 d.sym) .extra) :=
      .extra hip _ _ _
    rw [State.afterSlot, hx, show (1 : Word).toNat.log2 + d.sym = d.sym from Nat.zero_add _] at hextra
    exact .inl hextra
  | extraBit hd bit rg' cd' hbit =>
    obtain ⟨ip, len, hip, hmore⟩ := hf.extraBit hp hl hd.1 hbit .extra
    rw [goto_self (by exact hd.1)] at hmore
    exact .inl (hmore ▸ .extra hip _ _ _)
  | extraDone hd bit rg' cd' hbit hx =>
    obtain ⟨ip, len, hip, hdone⟩ := hf.extraBit hp hl hd.1 hbit .copy
    rw [hdone, hx]
    exact .inr (.matchNear hip _ _)
  | csumBit hd bit rg' cd' hbit =>
    obtain ⟨rg, cd, ip, x, n, hip, rfl⟩ := hf.at_csum hd.1
    exact .inl (.csum hip _ _)
  | csumDone hd bit rg' cd' hbit hx =>
    obtain ⟨hrg, -⟩ : rg'.toNat = _ ∧ cd'.toNat = _ := decodeDirect_toNat hbit
    have hnorm := needsNorm_eq_false.mp hd.2
    obtain ⟨rg, cd, ip, x, n, hip, rfl⟩ := hf.at_csum hd.1
    have heos : FieldsOutcome s (.cont ((s.readTo rg' cd' ip).afterStored (storedWithBit x bit) 0 .tail)) :=
      .eos hip (by omega) _
    rw [← show n - 1 = 0 from hx] at heos
    exact .inr heos
  | loaded hd | loadedLast hd | emitted hd | copied hd | copiedLast hd =>
    rcases hf.dstate with hd' | hd'
    · cases hd.symm.trans hd'
    · simp [State.inFields, hd] at hd'

/-- A check of the item's last field that fails keeps the writes of the fields. -/
theorem InFields.fails {c : Status} (hf : InFields s v) (hp : v.phase = .decoding) (hl : v.live)
    (hc : c.failsLastField) (h : microStep v = .stop c t) : FieldsOutcome s (.stop c t) := by
  have hinv := hl.inv hp
  cases microStep_cases h with
  | slotBad d hd hs =>
    obtain ⟨rg, cd, ip, len, hip, rfl⟩ := hf.at_slot hd.at_dstate
    have hbad : FieldsOutcome s (raiseFail .corruptDistance ((s.readTo d.range d.code ip).afterSlot len 1 0 .slot)) :=
      .matchBad hip _ _ (.inl rfl)
    rw [State.afterSlot, show (1 : Word).toNat.log2 + (0 : BitVec 5).toNat = d.sym from hs.symm] at hbad
    exact hbad
  | extraBad hd bit rg' cd' hbit hx =>
    obtain ⟨ip, len, hip, hdone⟩ := hf.extraBit hp hl hd.1 hbit .extra
    rw [goto_self (by exact hd.1)] at hdone
    rw [hdone, hx]
    exact .matchBad hip _ _ (.inr rfl)
  | csumBad hd bit rg' cd' hbit hx =>
    obtain ⟨rg, cd, ip, x, n, hip, rfl⟩ := hf.at_csum hd.1
    have hbad : FieldsOutcome s
        (raiseFail .checksum ((s.readTo rg' cd' ip).afterStored (storedWithBit x bit) 0 .csum)) := .eosBad hip _
    rw [← show n - 1 = 0 from hx] at hbad
    exact hbad
  | _ => exact absurd hc (by decide)

/-! ### The whole item -/

theorem readFields_outcome_of {n : Nat} {m : Micro} (hf : InFields s v) (hp : v.phase = .decoding) (hl : v.live)
    (h : readFields n v = some m) : FieldsOutcome s m := by
  induction n generalizing v with
  | zero => cases h
  | succ n ih =>
    rcases readFields_cases h with ⟨t, ht, hread⟩ | ⟨c, t, hc, ht, rfl⟩
    · obtain ⟨hpt, hlt⟩ := microAfter_live hp hl (microAfter_cont 0 ht)
      rcases hf.cont hp hl ht with hft | hout <;> rcases hread with ⟨hread, rfl⟩ | ⟨hread, h⟩
      · rcases hft.dstate with hd | hd
        · exact absurd hd (ne_ctrl_of_fieldsRead hread)
        · cases hread.symm.trans hd.before.2
      · exact ih hft hpt hlt h
      · exact hout
      · cases hout <;> cases hread
    · exact hf.fails hp hl hc ht

/-- What the item the stream holds leaves when its fields are read. -/
theorem readItem_outcome_of {i : Instr} {m : Micro} (hs : s.Inv) (h : readItem s = some (i, m)) :
    FieldsOutcome s m := by
  obtain ⟨hp, hd⟩ := readItem_boundary h
  have hstart : InFields s s := .ctrl hd (Nat.le_refl _)
  obtain ⟨t, rfl, -, hread⟩ | ⟨c, t, rfl, -, hread⟩ := readItem_cases h <;>
    exact readFields_outcome_of hstart hp (hs.live hp) hread

end Sys2Proof.Machine
end

section
/-! SUPPORT. Each item's fields, read: what `FieldsOutcome` says of the item it is, and how the item is finished
(`43_decode_driver.md` R229-R231). -/

namespace Sys2Proof.Machine

variable {s t u w : State} {i : Instr} {c : Status} {n : Nat}

/-! ### The item read, and its state -/

theorem readItem_lit (hs : s.Inv) {b : Byte} (h : readItem s = some (.lit b, .cont u)) :
    ∃ rg cd ip, s.ipos ≤ ip ∧ u = (s.readTo rg cd ip).afterLit b := by
  obtain ⟨hi, -⟩ := (readItem_cont_iff (readItem_boundary h).1).mp h
  cases readItem_outcome_of hs h with
  | lit hip b' =>
    obtain rfl : b = b' := Instr.lit.inj hi
    exact ⟨_, _, _, hip, rfl⟩
  | matchNear | eos => cases hi

theorem readItem_match (hs : s.Inv) {L d : Nat} (h : readItem s = some (.matchItem L d, .cont u)) :
    ∃ rg cd ip len dist, s.ipos ≤ ip ∧ u = (s.readTo rg cd ip).afterSlot len dist 0 .copy
      ∧ len.toNat = L ∧ dist.toNat = d := by
  obtain ⟨hi, -⟩ := (readItem_cont_iff (readItem_boundary h).1).mp h
  cases readItem_outcome_of hs h with
  | matchNear hip len dist =>
    obtain ⟨rfl, rfl⟩ := Instr.matchItem.inj hi
    exact ⟨_, _, _, _, _, hip, rfl, rfl, rfl⟩
  | lit | eos => cases hi

theorem readItem_eos (hs : s.Inv) {x : Word} (h : readItem s = some (.eos x, .cont u)) :
    ∃ rg cd ip, 2 ^ 23 ≤ rg.toNat ∧ u = (s.readTo rg cd ip).afterStored x 0 .tail := by
  obtain ⟨hi, -⟩ := (readItem_cont_iff (readItem_boundary h).1).mp h
  cases readItem_outcome_of hs h with
  | eos hip hrg x' =>
    obtain rfl : x = x' := Instr.eos.inj hi
    exact ⟨_, _, _, hrg, rfl⟩
  | lit | matchNear => cases hi

theorem readItem_matchBad (hs : s.Inv) {L d : Nat} (h : readItem s = some (.matchItem L d, .stop c w)) :
    c = .corruptDistance ∧ ∃ rg cd ip len dist ds, s.ipos ≤ ip
      ∧ w = failureEntry .corruptDistance ((s.readTo rg cd ip).afterSlot len dist 0 ds)
      ∧ len.toNat = L ∧ dist.toNat = d := by
  obtain ⟨hi, -⟩ := (readItem_stop_iff (readItem_boundary h).1).mp h
  cases readItem_outcome_of hs h with
  | matchBad hip len dist hd =>
    rcases hd with rfl | rfl <;>
    · obtain ⟨rfl, rfl⟩ := Instr.matchItem.inj hi
      exact ⟨rfl, _, _, _, _, _, _, hip, rfl, rfl, rfl⟩
  | eosBad => cases hi

theorem readItem_eosBad (hs : s.Inv) {x : Word} (h : readItem s = some (.eos x, .stop c w)) :
    c = .checksum ∧ ∃ rg cd ip, w = failureEntry .checksum ((s.readTo rg cd ip).afterStored x 0 .csum) := by
  obtain ⟨hi, -⟩ := (readItem_stop_iff (readItem_boundary h).1).mp h
  cases readItem_outcome_of hs h with
  | matchBad hip len dist hd => rcases hd with rfl | rfl <;> cases hi
  | eosBad hip x' =>
    obtain rfl : x = x' := Instr.eos.inj hi
    exact ⟨rfl, _, _, _, rfl⟩

/-- Reading the fields keeps what every step keeps. -/
theorem readItem_live (hs : s.Inv) (h : readItem s = some (i, .cont u)) : u.phase = .decoding ∧ u.live := by
  obtain ⟨hp, -⟩ := readItem_boundary h
  obtain ⟨-, -, a, b, -, hu, -⟩ := (readItem_cont_iff hp).mp h
  exact microAfter_live hp (hs.live hp) hu

theorem readItem_stop_live (hs : s.Inv) (h : readItem s = some (i, .stop c w)) : w.live := by
  obtain ⟨hp, -⟩ := readItem_boundary h
  obtain ⟨-, -, a, b, v, ⟨-, hv, -⟩, -, hw⟩ := (readItem_stop_iff hp).mp h
  obtain ⟨hpv, hlv⟩ := microAfter_live hp (hs.live hp) hv
  have hlive := microStep_live hpv hlv
  rwa [hw] at hlive

/-- An item that is read is read whole, or its last field's check fails. -/
theorem readItem_cont_or_stop {m : Micro} (h : readItem s = some (i, m)) :
    (∃ u, m = .cont u) ∨ ∃ c w, m = .stop c w := by
  obtain ⟨u, rfl, -⟩ | ⟨c, w, rfl, -⟩ := readItem_cases h
  · exact .inl ⟨u, rfl⟩
  · exact .inr ⟨c, w, rfl⟩

/-! ### The micro-steps after the fields -/

theorem finishItem_last (h : microStep u = .cont t) (ht : t.dstate = .ctrl) : finishItem (n + 1) u = .cont t := by
  simp only [finishItem, h, if_pos ht]

theorem finishItem_more (h : microStep u = .cont t) (ht : t.dstate ≠ .ctrl) :
    finishItem (n + 1) u = finishItem n t := by
  simp only [finishItem, h, if_neg ht]

theorem finishItem_stop (h : microStep u = .stop c t) : finishItem (n + 1) u = .stop c t := by
  simp only [finishItem, h]

end Sys2Proof.Machine
end

section
/-! CLAIM. O51: LIT with room completes (`43_decode_driver.md` R229). -/

namespace Sys2Proof.Machine

/-- Settles O51: the fields leave the literal pending, and EMIT produces it. -/
theorem litCompletes : Obligations.LitCompletes := by
  intro s u b hs h hroom htotal
  obtain ⟨hp, hd⟩ := readItem_boundary h
  obtain ⟨-, hwf, ⟨hin, -⟩, -⟩ := readItem_live hs h
  have hexec := exec_of_read hp h
  obtain ⟨rg, cd, ip, hip, rfl⟩ := readItem_lit hs h
  have hemit := (MicroStepCase.emitted (s := (s.readTo rg cd ip).afterLit b) rfl (outAvail_eq_true.mpr hroom) htotal).eq
  rw [finishBound, finishItem_last hemit rfl] at hexec
  exact ⟨_, hexec, produced_producedByte b hwf htotal, rfl, rfl, rfl, hip, hin, by rw [hd]; rfl⟩

end Sys2Proof.Machine
end

section
/-! CLAIM. O53: MATCH beyond `TOTAL_OUT` or `CAP` fails (`43_decode_driver.md` R230). -/

namespace Sys2Proof.Machine

/-- Settles O53: a MATCH read whole has a distance the window holds, so the check of this one fails. -/
theorem matchDistanceFails : Obligations.MatchDistanceFails := by
  intro s m L d hs h hfar
  obtain ⟨hp, -⟩ := readItem_boundary h
  obtain ⟨u, rfl⟩ | ⟨c, w, rfl⟩ := readItem_cont_or_stop h
  · obtain ⟨hpu, hu⟩ := readItem_live hs h
    obtain ⟨rg, cd, ip, len, dist, -, rfl, rfl, rfl⟩ := readItem_match hs h
    obtain ⟨-, -, htotal, hcap⟩ := ((hu.inv hpu).matchOk hpu).atCopy rfl
    exact absurd hfar (not_or.mpr ⟨not_lt.mpr htotal, not_lt.mpr hcap⟩)
  · obtain ⟨-, ⟨hin, -⟩, -⟩ := readItem_stop_live hs h
    have hexec := exec_of_read_stop hp h
    obtain ⟨rfl, rg, cd, ip, len, dist, ds, hip, rfl, rfl, rfl⟩ := readItem_matchBad hs h
    exact ⟨_, _, hexec, rfl, rfl, rfl, rfl, rfl, rfl, hip, hin, rfl, rfl, rfl, rfl, rfl, rfl, rfl, rfl,
      ⟨rfl, rfl, rfl, rfl, rfl⟩⟩

end Sys2Proof.Machine
end

section
/-! CLAIM. O56: EOS with a wrong stored checksum fails where it is compared (`43_decode_driver.md` R222, R231). -/

namespace Sys2Proof.Machine

/-- Settles O56: an EOS read whole holds the computed checksum, so the comparison of this one fails. -/
theorem eosChecksumFails : Obligations.EosChecksumFails := by
  intro s m x hs h hen hx
  obtain ⟨hp, -⟩ := readItem_boundary h
  obtain ⟨u, rfl⟩ | ⟨c, w, rfl⟩ := readItem_cont_or_stop h
  · obtain ⟨hpu, hu⟩ := readItem_live hs h
    obtain ⟨rg, cd, ip, -, rfl⟩ := readItem_eos hs h
    obtain ⟨-, hverified⟩ := (hu.inv hpu).verified (by rw [hpu]; decide) (.inl rfl)
    exact absurd ((congrArg BitVec.toNat (hverified hen)).trans (csumComputed_toNat s)) hx
  · have hexec := exec_of_read_stop hp h
    obtain ⟨rfl, rg, cd, ip, rfl⟩ := readItem_eosBad hs h
    exact ⟨_, _, hexec, rfl, rfl, rfl, rfl, rfl, rfl, rfl, rfl, rfl, rfl⟩

end Sys2Proof.Machine
end

section
/-! CLAIM. O54, O55: EOS to the end of the STEP (`43_decode_driver.md` R231, R223, R214). -/

namespace Sys2Proof.Machine

variable {u : State}

/-- TAIL with `CODE` 0 ends an item in SUCCESS. -/
theorem finishItem_tailDone {n : Nat} (hd : u.decodesAt .tail) (hc : u.code = 0) :
    finishItem (n + 1) u = finish (u.goto .done) := finishItem_stop (MicroStepCase.tailDone hd hc).eq

/-- TAIL with `CODE` not 0 ends an item in FAIL_CORRUPT_FORMAT. -/
theorem finishItem_tailBad {n : Nat} (hd : u.decodesAt .tail) (hc : u.code ≠ 0) :
    finishItem (n + 1) u = raiseFail .corruptFormat u := finishItem_stop (MicroStepCase.tailBad hd hc).eq

/-- Settles O54: the fields leave TAIL, whose sync check passes. -/
theorem eosCompletes : Obligations.EosCompletes := by
  intro s u x hs h hrg hc
  have hexec := exec_of_read (readItem_boundary h).1 h
  obtain ⟨rg, cd, ip, -, rfl⟩ := readItem_eos hs h
  rw [finishBound, finishItem_tailDone ⟨rfl, needsNorm_eq_false.mpr hrg⟩ hc] at hexec
  obtain rfl : cd = 0 := hc
  exact hexec

/-- TAIL ends an item, as `CODE` says, and consumes nothing more. -/
theorem finishItem_tail (n : Nat) (hd : u.decodesAt .tail) : ∃ t r, closeMicro (finishItem (n + 1) u) = .next t
    ∧ t.responses = u.responses ++ [r] ∧ r.consumed = u.ipos ∧ r.produced = u.out ∧ t.csumStored = u.csumStored
    ∧ (u.code = 0 → t.phase = .success ∧ t.dstate = .done ∧ r.status = 0x03)
    ∧ (u.code ≠ 0 → t.phase = .failed ∧ t.dstate = .tail ∧ t.err = 0x21 ∧ r.status = 0x21) := by
  by_cases hc : u.code = 0
  · rw [finishItem_tailDone hd hc]
    exact ⟨_, _, rfl, rfl, rfl, rfl, rfl, fun _ => ⟨rfl, rfl, rfl⟩, fun h => absurd hc h⟩
  · rw [finishItem_tailBad hd hc]
    exact ⟨_, _, rfl, rfl, rfl, rfl, rfl, fun h => absurd h hc, fun _ => ⟨rfl, hd.1, rfl, rfl⟩⟩

/-- A renormalisation leaves `CODE` 0 exactly where it was 0 and the byte is 0. -/
theorem codeWithByte_eq_zero {x : Word} {b : Byte} (hx : x.toNat < 2 ^ 24) :
    codeWithByte x b = 0 ↔ x = 0 ∧ b = 0 := by
  rw [← BitVec.toNat_inj, ← BitVec.toNat_inj, ← BitVec.toNat_inj (x := b), codeWithByte_toNat b hx]
  simp

/-- One renormalisation is enough for a `RANGE` of at least `2^16`. -/
theorem rcNorm_needsNorm (hrange : 2 ^ 16 ≤ u.range.toNat) (hnorm : u.range.toNat < 2 ^ 24) :
    (rcNorm u).needsNorm = false := by
  have hshift : (rcNorm u).range.toNat = u.range.toNat * 2 ^ 8 := shiftLeft_byte_toNat hnorm
  exact needsNorm_eq_false.mpr (by omega)

/-- Past the initial bytes `CODE` is below a `RANGE` that needs a byte. -/
theorem State.live.code_lt (hu : u.live) (hd : u.dstate ≠ .rcInit) (hrange : u.range.toNat < 2 ^ 24) :
    u.code.toNat < u.range.toNat := by
  obtain ⟨-, -, -, -, ⟨-, hloaded⟩, -⟩ := hu
  obtain ⟨-, -, hcode⟩ := hloaded hd
  refine hcode.resolve_right fun h => ?_
  rw [h] at hrange
  exact absurd hrange (by decide)

/-- TAIL with its byte at hand, if it needs one: the byte is taken in, and `CODE` is then 0 where it and the byte
were. -/
theorem finishItem_tailByte {k : Nat} (hd : u.dstate = .tail) (hu : u.live) (hrange : 2 ^ 16 ≤ u.range.toNat)
    (hk : k = if 2 ^ 24 ≤ u.range.toNat then 0 else 1) (hin : u.ipos + k ≤ u.input.length) (n : Nat) :
    ∃ m v, finishItem (n + 2) u = finishItem (m + 1) v ∧ v.decodesAt .tail ∧ v.responses = u.responses
      ∧ v.ipos = u.ipos + k ∧ v.out = u.out ∧ v.csumStored = u.csumStored
      ∧ (v.code = 0 ↔ u.code = 0 ∧ ∀ j, j < k → u.input.getD (u.ipos + j) 0 = 0) := by
  by_cases hnorm : 2 ^ 24 ≤ u.range.toNat
  · rw [if_pos hnorm] at hk
    subst hk
    exact ⟨n + 1, u, rfl, ⟨hd, needsNorm_eq_false.mpr hnorm⟩, rfl, rfl, rfl, rfl, by simp⟩
  · rw [if_neg hnorm] at hk
    subst hk
    have hlt := not_le.mp hnorm
    have hcode : u.code.toNat < 2 ^ 24 := (hu.code_lt (by simp [hd]) hlt).trans hlt
    have hdecodes : u.dstate.decodes := by simp [DState.decodes, hd]
    have hstep : microStep u = .cont (rcNorm u) :=
      (MicroStepCase.renormalised hdecodes (needsNorm_eq_true.mpr hlt) (inAvail_eq_true.mpr hin)).eq
    refine ⟨n, rcNorm u, finishItem_more hstep (by simp [hd]), ⟨hd, rcNorm_needsNorm hrange hlt⟩,
      rfl, rfl, rfl, rfl, ?_⟩
    rw [rcNorm_code, codeWithByte_eq_zero hcode]
    simp [State.nextByte]

/-- Settles O55: the fields leave TAIL with a `RANGE` that one byte is enough for. -/
theorem eosTail : Obligations.EosTail := by
  intro s u x k hs h hk hin
  have hexec := exec_of_read (readItem_boundary h).1 h
  obtain ⟨-, hu⟩ := readItem_live hs h
  obtain ⟨rg, cd, ip, hrg, rfl⟩ := readItem_eos hs h
  obtain ⟨m, v, hbyte, htail, hresponses, hipos, hout, hcsum, hcode⟩ :=
    finishItem_tailByte rfl hu (show 2 ^ 16 ≤ rg.toNat by omega) hk hin (s.input.length + 512)
  obtain ⟨t, r, ht, hr, hconsumed, hproduced, hstored, hdone, hbad⟩ := finishItem_tail m htail
  exact ⟨t, r, (hexec.trans (congrArg closeMicro hbyte)).trans ht, hr.trans (congrArg (· ++ [r]) hresponses),
    hconsumed.trans hipos, hproduced.trans hout, hstored.trans hcsum, fun hzero => hdone (hcode.mpr hzero),
    fun hzero => hbad (mt hcode.mp hzero)⟩

end Sys2Proof.Machine
end

section
/-! CLAIM. O52: MATCH with room completes (`43_decode_driver.md` R230, `42_history_window.md` R190, R195, R196). -/

namespace Sys2Proof.Machine

variable {s u : State} {h : History} {m : BitVec 9}

/-- The state with the history `h`. -/
def State.withHistory (h : History) (s : State) : State :=
  { s with
    cfgDictLog2 := h.dictLog2
    win := h.win
    totalOut := h.totalOut
    adlerA := h.adlerA
    adlerB := h.adlerB
    out := h.out }

/-- The state among the copies of the match in `u`: `h` is the history with the bytes copied so far as its output, and
`m` bytes are to come. -/
def State.amidCopies (h : History) (m : BitVec 9) (u : State) : State :=
  { u.withHistory h with out := u.out ++ h.out, mlen := m, dstate := if m = 0 then .ctrl else .copy }

/-- What the copies of the match in `u` keep: `h` holds the bytes copied so far, `m` are to come. -/
structure Copied (u : State) (h : History) (m : BitVec 9) : Prop where
  /-- Each copy is one less to come. -/
  count : h.out.length + m.toNat = u.mlen.toNat
  /-- The window holds the last `CAP` bytes (`42_history_window.md` R190). -/
  recalls : h.recalls u
  /-- The copied bytes are in the checksum. -/
  folded : h.foldedFrom u.adlerA u.adlerB
  /-- The window is unchanged outside the indices of the copied bytes. -/
  kept : ∀ i, (∀ j, j < h.out.length → i ≠ (u.totalOut.toNat + j) % u.cap) →
    Memory.read h.win i = Memory.read u.win i
  /-- Each copied byte is the one `MDIST` back (`42_history_window.md` R195). -/
  copies : ∀ j, j < h.out.length → h.out[j]? = u.byteNumber h.out (u.totalOut.toNat + j - u.mdist.toNat)

/-- Before the first copy. -/
theorem copied_start (hwf : Memory.wf u.win = true) : Copied u { u.history with out := [] } u.mlen where
  count := Nat.zero_add _
  recalls := ⟨rfl, hwf, rfl, fun _ hk _ => (byteNumber_before [] hk).symm⟩
  folded := rfl
  kept _ _ := rfl
  copies _ hj := absurd hj (Nat.not_lt_zero _)

/-- A byte produced among the copies is in the history and one less to come. -/
theorem produced_amidCopies (b : Byte) :
    { produced b (u.amidCopies h m) with mlen := m - 1, dstate := if m = 1 then .ctrl else .copy }
      = u.amidCopies (produced b (u.withHistory h)).history (m - 1) := by
  have hlast : m - 1 = 0 ↔ m = 1 := sub_eq_zero
  show _ = { produced b (u.withHistory h) with
    out := u.out ++ (h.out ++ [b]), mlen := m - 1, dstate := if m - 1 = 0 then .ctrl else .copy }
  simp only [hlast, ← List.append_assoc]
  rfl

/-- Before the first copy the state is `u`. -/
theorem amidCopies_start (hd : u.dstate = .copy) (hm : u.mlen ≠ 0) :
    u.amidCopies { u.history with out := [] } u.mlen = u := by
  simp only [State.amidCopies, if_neg hm, ← hd, List.append_nil]
  rfl

/-- Copying one more byte keeps it, the byte being the one `MDIST` back. -/
theorem Copied.put {b : Byte} (hc : Copied u h m) (hm : 1 ≤ m.toNat) (ht : h.totalOut.toNat + 1 < 2 ^ 64)
    (hdist : 1 ≤ u.mdist.toNat) (hle : u.mdist.toNat ≤ h.totalOut.toNat)
    (hb : u.byteNumber h.out (h.totalOut.toNat - u.mdist.toNat) = some b) :
    Copied u (produced b (u.withHistory h)).history (m - 1) := by
  obtain ⟨hdict, hwf, htotal, -⟩ := hc.recalls
  have hlen : (h.out ++ [b]).length = h.out.length + 1 := List.length_append
  have hpos : (u.withHistory h).writePos = (u.totalOut.toNat + h.out.length) % u.cap := by
    rw [State.writePos, State.cap, State.cap, ← htotal, ← hdict]
    rfl
  refine ⟨?_, produced_recalls b ht hc.recalls, produced_foldedFrom b hc.folded, fun i hi => ?_, fun j hj => ?_⟩
  · have hcount := hc.count
    show (h.out ++ [b]).length + (m - 1).toNat = u.mlen.toNat
    rw [hlen, sub_one_toNat hm]
    omega
  · show Memory.read (Memory.write h.win (u.withHistory h).writePos b) i = _
    change ∀ j, j < (h.out ++ [b]).length → _ at hi
    rw [hlen] at hi
    rw [hpos, Memory.read_write_other _ _ (hi _ (Nat.lt_succ_self _)) hwf]
    exact hc.kept i fun j hj => hi j (Nat.lt_succ_of_lt hj)
  · change j < (h.out ++ [b]).length at hj
    show (h.out ++ [b])[j]? = u.byteNumber (h.out ++ [b]) (u.totalOut.toNat + j - u.mdist.toNat)
    rw [byteNumber_append b (by omega)]
    rcases Nat.lt_succ_iff_lt_or_eq.mp (hlen ▸ hj) with hlt | rfl
    · rw [List.getElem?_append_left hlt]
      exact hc.copies j hlt
    · rw [List.getElem?_concat_length, ← htotal, hb]

/-- With room, COPY copies one more byte of the match. -/
theorem microStep_amidCopies (hl : (u.amidCopies h m).live) (hp : u.phase = .decoding) (hc : Copied u h m)
    (hm : m ≠ 0) (hroom : u.out.length + u.mlen.toNat ≤ u.ocap)
    (htotal : u.totalOut.toNat + u.mlen.toNat < 2 ^ 64) :
    ∃ h', Copied u h' (m - 1) ∧ microStep (u.amidCopies h m) = .cont (u.amidCopies h' (m - 1)) := by
  have hd : (u.amidCopies h m).dstate = .copy := if_neg hm
  have hinv := hl.inv (s := u.amidCopies h m) hp
  obtain ⟨hdict, -, hnumber, hlast⟩ := hc.recalls
  have hcap : (u.amidCopies h m).cap = u.cap := by rw [State.cap, State.cap, ← hdict]; rfl
  obtain ⟨hpos, hdist, hle, hnear⟩ : 1 ≤ m.toNat ∧ 1 ≤ u.mdist.toNat ∧ u.mdist.toNat ≤ h.totalOut.toNat
      ∧ u.mdist.toNat ≤ (u.amidCopies h m).cap := (hinv.matchOk hp).atCopy hd
  obtain ⟨-, -, -, -, -, -, hwindow, -⟩ := hinv.sessionOk hp
  have hread : Memory.read h.win ((h.totalOut.toNat - u.mdist.toNat) % (u.amidCopies h m).cap) = some _ :=
    read_copyPos hwindow hdist hle
  rw [hcap] at hnear hread
  have hcount := hc.count
  have hout : (u.out ++ h.out).length = u.out.length + h.out.length := List.length_append
  have ho : (u.amidCopies h m).outAvail = true :=
    outAvail_eq_true.mpr (show (u.out ++ h.out).length < u.ocap by omega)
  have ht : h.totalOut.toNat + 1 < 2 ^ 64 := by omega
  refine ⟨_, hc.put hpos ht hdist hle ((hlast _ (by omega) (by omega)).symm.trans hread), ?_⟩
  rw [microStep_copyByte hd ho ht]
  exact congrArg Micro.cont (produced_amidCopies _)

/-- With room the copies lead to the item boundary. -/
theorem finishItem_amidCopies {n : Nat} (hl : (u.amidCopies h m).live) (hp : u.phase = .decoding) (hc : Copied u h m)
    (hm : m ≠ 0) (hn : m.toNat ≤ n) (hroom : u.out.length + u.mlen.toNat ≤ u.ocap)
    (htotal : u.totalOut.toNat + u.mlen.toNat < 2 ^ 64) :
    ∃ h', Copied u h' 0 ∧ finishItem n (u.amidCopies h m) = .cont (u.amidCopies h' 0) := by
  induction n generalizing h m with
  | zero => exact absurd (BitVec.eq_of_toNat_eq (Nat.le_zero.mp hn)) hm
  | succ n ih =>
    obtain ⟨h', hc', hstep⟩ := microStep_amidCopies hl hp hc hm hroom htotal
    have hl' := microStep_live (s := u.amidCopies h m) hp hl
    rw [hstep] at hl'
    by_cases hlast : m - 1 = 0
    · rw [hlast] at hc' hstep
      exact ⟨h', hc', finishItem_last hstep rfl⟩
    · have hsub := sub_one_toNat (x := m) (Nat.one_le_iff_ne_zero.mpr fun h0 => hm (BitVec.eq_of_toNat_eq h0))
      have hgo : (u.amidCopies h' (m - 1)).dstate ≠ .ctrl := by
        rw [show (u.amidCopies h' (m - 1)).dstate = .copy from if_neg hlast]
        decide
      rw [finishItem_more hstep hgo]
      exact ih hl' hc' hlast (by omega)

/-- A match with room for all of it is finished by copying all its bytes. -/
theorem finishItem_copies (hu : u.live) (hp : u.phase = .decoding) (hd : u.dstate = .copy)
    (hroom : u.out.length + u.mlen.toNat ≤ u.ocap) (htotal : u.totalOut.toNat + u.mlen.toNat < 2 ^ 64) :
    ∃ h, Copied u h 0 ∧ finishItem (finishBound u) u = .cont (u.amidCopies h 0) := by
  obtain ⟨hpos, -⟩ := ((hu.inv hp).matchOk hp).atCopy hd
  have hm : u.mlen ≠ 0 := fun h0 => by simp [h0] at hpos
  have hbound : u.mlen.toNat ≤ finishBound u := by
    rw [finishBound]
    omega
  have hstart := amidCopies_start hd hm
  have hlive := hu
  rw [← hstart] at hlive
  obtain ⟨h, hc, hfinish⟩ := finishItem_amidCopies hlive hp (copied_start hu.1) hm hbound hroom htotal
  rw [hstart] at hfinish
  exact ⟨h, hc, hfinish⟩

/-- A match's byte is the one `MDIST` back, in the window or among those copied before it. -/
theorem Copied.byte {j : Nat} (hc : Copied u h m) (hj : j < h.out.length) (hdist : 1 ≤ u.mdist.toNat)
    (hle : u.mdist.toNat ≤ u.totalOut.toNat) :
    some (h.out.getD j 0) =
      if j < u.mdist.toNat then Memory.read u.win ((u.totalOut.toNat + j - u.mdist.toNat) % u.cap)
      else some (h.out.getD (j - u.mdist.toNat) 0) := by
  have hget {k : Nat} (hk : k < h.out.length) : h.out[k]? = some (h.out.getD k 0) := by
    rw [List.getElem?_eq_getElem hk, List.getD_eq_getElem _ _ hk]
  rw [← hget hj, hc.copies j hj]
  split
  · exact byteNumber_before _ (by omega)
  · rw [show u.totalOut.toNat + j - u.mdist.toNat = u.totalOut.toNat + (j - u.mdist.toNat) by omega,
      byteNumber_output, hget (by omega)]

/-- The copied bytes among the last `CAP` are in the window. -/
theorem Copied.window {j : Nat} (hc : Copied u h m) (hj : j < h.out.length) (hlast : h.out.length ≤ j + u.cap) :
    Memory.read h.win ((u.totalOut.toNat + j) % u.cap) = some (h.out.getD j 0) := by
  obtain ⟨-, -, hnumber, hread⟩ := hc.recalls
  rw [hread _ (by omega) (by omega), byteNumber_output, List.getElem?_eq_getElem hj, List.getD_eq_getElem _ _ hj]

/-- Settles O52: the fields leave COPY at a distance the window holds, and the copies end with none to come. -/
theorem matchCompletes : Obligations.MatchCompletes := by
  intro s u L d hs h hroom htotal
  obtain ⟨hp, hd⟩ := readItem_boundary h
  have hexec := exec_of_read hp h
  obtain ⟨hpu, hu⟩ := readItem_live hs h
  obtain ⟨rg, cd, ip, len, dist, -, rfl, rfl, rfl⟩ := readItem_match hs h
  obtain ⟨-, hdist, hle, -⟩ := ((hu.inv hpu).matchOk hpu).atCopy rfl
  obtain ⟨v, hv, hfinish⟩ := finishItem_copies hu hpu rfl hroom htotal
  rw [hfinish] at hexec
  have hlen : v.out.length = len.toNat := hv.count
  obtain ⟨hdict, -, hnumber, -⟩ := hv.recalls
  refine ⟨_, v.out, hexec, hlen, fun j hj => hv.byte (hlen ▸ hj) hdist hle, rfl, hlen ▸ hnumber, hv.folded,
    fun i hi => hv.kept i (hlen ▸ hi), fun j hj hlast => hv.window (hlen ▸ hj) (hlen ▸ hlast),
    rfl, rfl, rfl, rfl, rfl, ?_⟩
  obtain ⟨dict, win, total, a, b, out⟩ := v
  obtain rfl : dict = s.cfgDictLog2 := hdict
  rw [hd]
  rfl

end Sys2Proof.Machine
end

section
/-! SUPPORT. What a run of micro-steps leaves alone besides the configuration, and that what it does is independent of
the model's own fields: `s.withOwnOf o` is `s` with the host's queue, the results and the draw number of `o`. In a live
session a micro-step reads no window byte that is not written, so it does the same in both
(`42_history_window.md` R197, `44_host_commands.md` R273). -/

namespace Sys2Proof.Machine

variable {s t o : State}

/-- What a STEP is given and the model's own fields: `t` has those of `s`. -/
def State.samePort (s t : State) : Prop :=
  t.input = s.input ∧ t.ocap = s.ocap ∧ t.final = s.final ∧ t.requests = s.requests ∧ t.responses = s.responses
    ∧ t.draws = s.draws

theorem State.samePort.refl (s : State) : s.samePort s := ⟨rfl, rfl, rfl, rfl, rfl, rfl⟩

theorem State.samePort.trans {u : State} (h : s.samePort t) (h' : t.samePort u) : s.samePort u := by
  obtain ⟨hinput, hocap, hfinal, hrequests, hresponses, hdraws⟩ := h
  obtain ⟨hinput', hocap', hfinal', hrequests', hresponses', hdraws'⟩ := h'
  exact ⟨hinput'.trans hinput, hocap'.trans hocap, hfinal'.trans hfinal, hrequests'.trans hrequests,
    hresponses'.trans hresponses, hdraws'.trans hdraws⟩

/-- No micro-step writes them: none of its cases does. -/
theorem microStep_samePort (s : State) : (microStep s).Leaves s.samePort := by
  generalize hm : microStep s = m
  cases microStep_cases hm with
  | overflow | ended => trivial
  | _ => exact ⟨rfl, rfl, rfl, rfl, rfl, rfl⟩

theorem RunOutcome.samePort {m : Micro} (h : RunOutcome s m) : m.Leaves s.samePort :=
  h.keeps (fun u hu => (microStep_samePort u).imp fun _ => hu.trans) (.refl s)

/-- `s` with the model's own fields of `o`. -/
def State.withOwnOf (s o : State) : State :=
  { s with requests := o.requests, responses := o.responses, draws := o.draws }

/-- States that agree are one with the model's own fields of the other. -/
theorem State.agrees.eq_withOwnOf (h : s.agrees t) : t = s.withOwnOf t :=
  (congrArg (State.withOwnOf · t) h).symm

/-- The outcome with its state changed by `g`. -/
def Micro.map (g : State → State) : Micro → Micro
  | .cont s => .cont (g s)
  | .stop c s => .stop c (g s)
  | .fault f => .fault f

/-- A byte that is written reads the same whatever the draw. -/
theorem winRead_withOwnOf {i : Nat} {b : Byte} (h : Memory.read s.win i = some b) :
    (s.withOwnOf o).winRead i = s.winRead i := by
  simp [State.winRead, State.withOwnOf, h]

theorem rcLoad_withOwnOf (o s : State) : rcLoad (s.withOwnOf o) = (rcLoad s).map (State.withOwnOf · o) := by
  rcases rcLoad_cases s with ⟨h0, hb, hr⟩ | ⟨h0, hb, hr⟩ | ⟨h0, hr⟩ <;> rw [hr]
  · exact (if_pos h0).trans (if_pos hb)
  · exact (if_pos h0).trans (if_neg hb)
  · exact if_neg h0

/-- A direct bit depends on the coder alone. -/
theorem decodeDirect_withOwnOf {bit : Nat} {rg cd : Word} (h : decodeDirect s = some (bit, s.setCoder rg cd)) :
    decodeDirect (s.withOwnOf o) = some (bit, (s.withOwnOf o).setCoder rg cd) := by
  obtain ⟨hbit, hlt, hstate⟩ := decodeDirect_cases h
  obtain rfl : rg = _ := congrArg State.range hstate
  obtain rfl : cd = _ := congrArg State.code hstate
  subst hbit
  exact if_neg (not_le.mpr hlt)

/-- In a live session the byte COPY reads is written. -/
theorem copyByte_withOwnOf (hs : s.live) (hd : s.dstate = .copy) :
    (s.withOwnOf o).winRead s.copyPos = s.winRead s.copyPos := by
  obtain ⟨-, -, -, -, -, hmatch, -, -, hwindow, -⟩ := hs
  obtain ⟨-, hpos, hle, -⟩ := hmatch.atCopy hd
  exact winRead_withOwnOf (read_copyPos hwindow hpos hle)

/-- In a live session a micro-step does the same whatever the model's own fields are. -/
theorem microStep_withOwnOf (o : State) (hs : s.live) :
    microStep (s.withOwnOf o) = (microStep s).map (State.withOwnOf · o) := by
  have hload {cd : Word} (h : rcLoad s = .cont { s.takeByte with code := cd, initCnt := s.initCnt + 1 }) :
      rcLoad (s.withOwnOf o) = .cont { (s.withOwnOf o).takeByte with code := cd, initCnt := s.initCnt + 1 } := by
    rw [rcLoad_withOwnOf, h]
    rfl
  generalize hm : microStep s = m
  refine MicroStepCase.eq ?_
  cases microStep_cases hm with
  | truncated hd ha hf => exact .truncated (s := s.withOwnOf o) hd ha hf
  | needsInput hd ha hf => exact .needsInput (s := s.withOwnOf o) hd ha hf
  | badFirstByte hd ha h0 hb => exact .badFirstByte (s := s.withOwnOf o) hd ha h0 hb
  | loaded hd ha cd hl hn => exact .loaded (s := s.withOwnOf o) hd ha cd (hload hl) hn
  | loadedLast hd ha cd hl hn => exact .loadedLast (s := s.withOwnOf o) hd ha cd (hload hl) hn
  | renormalised hd hn ha => exact .renormalised (s := s.withOwnOf o) hd hn ha
  | noSymbol c hd hf => exact .noSymbol (s := s.withOwnOf o) c hd hf
  | noBit hd hf => exact .noBit (s := s.withOwnOf o) hd (decodeDirect_eq_none.mpr (decodeDirect_eq_none (s := s).mp hf))
  | ctrlLit d hd hs => exact .ctrlLit (s := s.withOwnOf o) d hd hs
  | ctrlMatch d hd hs => exact .ctrlMatch (s := s.withOwnOf o) d hd hs
  | ctrlEos d hd hs => exact .ctrlEos (s := s.withOwnOf o) d hd hs
  | literal d hd => exact .literal (s := s.withOwnOf o) d hd
  | length d hd => exact .length (s := s.withOwnOf o) d hd
  | slotNear d hd hs hk => exact .slotNear (s := s.withOwnOf o) d hd hs hk
  | slotBad d hd hs hk => exact .slotBad (s := s.withOwnOf o) d hd hs hk
  | slotExtra d hd hs => exact .slotExtra (s := s.withOwnOf o) d hd hs
  | extraBit hd bit rg cd hb hx => exact .extraBit (s := s.withOwnOf o) hd bit rg cd (decodeDirect_withOwnOf hb) hx
  | extraDone hd bit rg cd hb hx hk =>
    exact .extraDone (s := s.withOwnOf o) hd bit rg cd (decodeDirect_withOwnOf hb) hx hk
  | extraBad hd bit rg cd hb hx hk =>
    exact .extraBad (s := s.withOwnOf o) hd bit rg cd (decodeDirect_withOwnOf hb) hx hk
  | needsOutput hd ho => exact .needsOutput (s := s.withOwnOf o) hd ho
  | overflow hd ho ht => exact .overflow (s := s.withOwnOf o) hd ho ht
  | emitted hd ho ht => exact .emitted (s := s.withOwnOf o) hd ho ht
  | copied hd ho ht hmore =>
    have hcase := MicroStepCase.copied (s := s.withOwnOf o) hd ho ht hmore
    rwa [show (s.withOwnOf o).copyPos = s.copyPos from rfl, copyByte_withOwnOf hs hd] at hcase
  | copiedLast hd ho ht hlast =>
    have hcase := MicroStepCase.copiedLast (s := s.withOwnOf o) hd ho ht hlast
    rwa [show (s.withOwnOf o).copyPos = s.copyPos from rfl, copyByte_withOwnOf hs hd] at hcase
  | csumBit hd bit rg cd hb hx => exact .csumBit (s := s.withOwnOf o) hd bit rg cd (decodeDirect_withOwnOf hb) hx
  | csumBad hd bit rg cd hb hx he hk =>
    exact .csumBad (s := s.withOwnOf o) hd bit rg cd (decodeDirect_withOwnOf hb) hx he hk
  | csumDone hd bit rg cd hb hx hk =>
    exact .csumDone (s := s.withOwnOf o) hd bit rg cd (decodeDirect_withOwnOf hb) hx hk
  | tailDone hd hc => exact .tailDone (s := s.withOwnOf o) hd hc
  | tailBad hd hc => exact .tailBad (s := s.withOwnOf o) hd hc
  | ended hd => exact .ended (s := s.withOwnOf o) hd

/-- So does the loop. -/
theorem runLoop_withOwnOf (o : State) (hp : s.phase = .decoding) (hs : s.live) (n : Nat) :
    runLoop n (s.withOwnOf o) = (runLoop n s).map (State.withOwnOf · o) := by
  induction n generalizing s with
  | zero => rfl
  | succ n ih =>
    have hstep := microStep_withOwnOf o hs
    cases hm : microStep s with
    | cont t =>
      rw [hm] at hstep
      have hlive := microStep_live hp hs
      rw [hm] at hlive
      rw [runLoop_cont hm, runLoop_cont hstep]
      exact ih ((microStep_cont_phase hm).trans hp) hlive
    | stop c t =>
      rw [hm] at hstep
      rw [runLoop_stop hm, runLoop_stop hstep]
      rfl
    | fault f =>
      rw [hm] at hstep
      rw [runLoop_fault hm, runLoop_fault hstep]
      rfl

/-- So does a STEP that runs the loop. -/
theorem runStep_withOwnOf (o : State) (hs : s.Inv) (hp : s.phase.resumable) (f : Bool) (inp : List Byte) (oc : Nat) :
    runStep f inp oc (s.withOwnOf o) = (runStep f inp oc s).map (State.withOwnOf · o) :=
  runLoop_withOwnOf o rfl (startStep_live hs hp f inp oc) _

end Sys2Proof.Machine
end

section
/-! CLAIM. O30: what the unwritten window bytes hold never reaches a result or a register (`44_host_commands.md` R272,
R273, `42_history_window.md` R197, `10_state.md` R51). -/

namespace Sys2Proof.Machine

variable {s s' t : State} {r : Response}

/-- The outcome `e` of a command in `s'` is a next state that has the result `r` and agrees with `t`. -/
def AnswersAlike (s' t : State) (r : Response) (e : Host.Outcome State Fault Refusal) : Prop :=
  ∃ t', e = .next t' ∧ t'.responses = s'.responses ++ [r] ∧ t.agrees t'

/-- An answer to states that agree. -/
theorem answersAlike_answer {r₀ : Response} (ha : s.agrees s') (h : answer r₀ s = .next t)
    (hr : t.responses = s.responses ++ [r]) : AnswersAlike s' t r (answer r₀ s') := by
  cases h
  obtain rfl : r₀ = r := by simpa using hr
  exact ⟨_, rfl, rfl, ha⟩

theorem phase_eq_of_agrees (ha : s.agrees s') : s'.phase = s.phase := by
  rw [ha.eq_withOwnOf]
  rfl

theorem err_eq_of_agrees (ha : s.agrees s') : s'.err = s.err := by
  rw [ha.eq_withOwnOf]
  rfl

/-- QUERY shows no window byte and none of the model's own fields. -/
theorem observed_eq_of_agrees (ha : s.agrees s') (n : Nat) : s'.observed n = s.observed n := by
  rw [ha.eq_withOwnOf]
  rfl

/-- A session starts the same whatever was there before. -/
theorem sessionReset_agrees (p : Word) (ha : s.agrees s') : (sessionReset p s).agrees (sessionReset p s') := by
  rw [ha.eq_withOwnOf]
  rfl

theorem startSession_alike {p : Word} (ha : s.agrees s') (h : startSession p s = .next t)
    (hr : t.responses = s.responses ++ [r]) : AnswersAlike s' t r (startSession p s') := by
  simp only [startSession] at h ⊢
  split_ifs at h ⊢
  · exact answersAlike_answer (sessionReset_agrees p ha) h hr
  · exact answersAlike_answer ha h hr

theorem execQuery_alike {q : BitVec 4} (ha : s.agrees s') (h : execQuery q s = .next t)
    (hr : t.responses = s.responses ++ [r]) : AnswersAlike s' t r (execQuery q s') := by
  simp only [execQuery, badCommand, phase_eq_of_agrees ha, observed_eq_of_agrees ha] at h ⊢
  split_ifs at h ⊢ <;> exact answersAlike_answer ha h hr

/-- A STEP that runs the loop stops with the same status in states that agree. -/
theorem execStep_running_alike {f : Bool} {inp : List Byte} {oc : Nat} (hs : s.Inv) (hp : s.phase.resumable)
    (ha : s.agrees s') (h : closeMicro (runStep f inp oc s) = .next t) (hr : t.responses = s.responses ++ [r]) :
    AnswersAlike s' t r (closeMicro (runStep f inp oc s')) := by
  have hrun := runStep_withOwnOf s' hs hp f inp oc
  rw [← ha.eq_withOwnOf] at hrun
  obtain hm | ⟨c, u, hm, rfl⟩ := closeMicro_next h
  · exact absurd hm (runLoop_ne_cont _ _ _)
  · have hport := (runLoop_outcome (loopBound inp oc) (startStep f inp oc s)).samePort
    rw [show runLoop _ _ = _ from hm] at hport
    obtain ⟨-, -, -, -, hresponses, -⟩ := hport
    obtain rfl := stepResult_eq hr hresponses
    rw [hrun, hm]
    exact ⟨_, rfl, rfl, rfl⟩

theorem execStep_alike {f : Bool} {inp : List Byte} {oc : Nat} (hs : s.Inv) (hd : s.phase ≠ .decoding)
    (ha : s.agrees s') (h : execStep f inp oc s = .next t) (hr : t.responses = s.responses ++ [r]) :
    AnswersAlike s' t r (execStep f inp oc s') := by
  simp only [execStep, phase_eq_of_agrees ha, err_eq_of_agrees ha] at h ⊢
  cases hp : s.phase with
  | decoding => exact absurd hp hd
  | uninit | success | failed => rw [hp] at h; exact answersAlike_answer ha h hr
  | ready | needInput | needOutputSpace =>
    rw [hp] at h
    exact execStep_running_alike hs (by simp [Phase.resumable, hp]) ha h hr

/-- Settles O30, instruction by instruction: the commands that answer at once look at no window byte, and a STEP reads
only bytes that are written. -/
theorem sessionsIgnoreUnwrittenWindow : Obligations.SessionsIgnoreUnwrittenWindow := by
  intro s s' t r i hs _ huninit hd ha hdeinit h hr
  have hp := phase_eq_of_agrees ha
  show AnswersAlike s' t r (exec i s')
  cases i with
  | version => exact answersAlike_answer ha h hr
  | init p => exact startSession_alike ha h hr
  | reinit p =>
    simp only [exec, execReinit, hp, if_neg huninit] at h ⊢
    exact startSession_alike ha h hr
  | deinit => exact absurd rfl hdeinit
  | step f inp oc => exact execStep_alike hs hd ha h hr
  | query q => exact execQuery_alike ha h hr
  | reservedOp67 w => exact answersAlike_answer ha h hr
  | reservedOp8F w => exact answersAlike_answer ha h hr
  | lit b => exact (runItem_between hd h).elim
  | matchItem l d => exact (runItem_between hd h).elim
  | eos x => exact (runItem_between hd h).elim
  | oneshot p src cap want =>
    have huninit' : s'.phase ≠ .uninit := hp ▸ huninit
    simp only [exec, execOneshot, if_pos huninit, if_pos huninit'] at h ⊢
    exact answersAlike_answer ha h hr

end Sys2Proof.Machine
end

section
/-! CLAIM. O21: a STEP is the driver's loop to its end (`44_host_commands.md` R267, `43_decode_driver.md` R210, R211,
R227, R233, `70_reset_and_hazards.md` R346, `93_implementation_defined.md` U6). -/

namespace Sys2Proof.Machine

variable {s t u : State} {f : Bool} {inp : List Byte} {oc : Nat} {c : Status}

/-- The statuses a micro-step stops with, each with the phase it leaves. -/
theorem microStep_stop_status (h : microStep s = .stop c t) :
    (t.phase = .needInput ∧ c = .needInput) ∨ (t.phase = .needOutputSpace ∧ c = .needOutputSpace)
    ∨ (t.phase = .success ∧ c = .success) ∨ (t.phase = .failed ∧ t.err = c.code ∧ c.isFailure) := by
  cases microStep_cases h with
  | needsInput => exact .inl ⟨rfl, rfl⟩
  | needsOutput => exact .inr (.inl ⟨rfl, rfl⟩)
  | tailDone => exact .inr (.inr (.inl ⟨rfl, rfl⟩))
  | _ => exact .inr (.inr (.inr ⟨rfl, rfl, by simp [Status.isFailure]⟩))

/-- The codes of the stream failures (`30_encoding.md` R96). -/
theorem failure_code_bounds (hc : c.isFailure) : 0x20 ≤ c.code.toNat ∧ c.code.toNat ≤ 0x24 := by
  rcases hc with rfl | rfl | rfl | rfl | rfl <;> decide

theorem State.Inv.winCanonical (hs : s.Inv) : Memory.wf s.win = true := by
  obtain ⟨hwf, -⟩ := hs
  exact hwf

/-- Every micro-step keeps the last `CAP` bytes of the session in the window, and counts them. -/
theorem microStep_recalls (u : State) (hu : u.history.recalls s) :
    (microStep u).Leaves fun t => t.history.recalls s := by
  refine (microStep_history u).imp ?_
  rintro t (ht | ⟨b, hb, ht⟩) <;> rw [ht]
  · exact hu
  · exact produced_recalls b hb hu

/-- A STEP's loop stops, or faults, in a micro-step that others from the start lead to. -/
theorem runStep_last {m : Micro} (h : runStep f inp oc s = m) :
    ∃ k u, microAfter k (startStep f inp oc s) = some u ∧ microStep u = m := by
  have hrun := runLoop_outcome (loopBound inp oc) (startStep f inp oc s)
  rw [show runLoop _ _ = _ from h] at hrun
  cases hrun with
  | reached => exact absurd h (runLoop_ne_cont _ _ _)
  | ended hu hm => exact ⟨_, _, hu, hm⟩
  | outrun => exact absurd h (runStep_ne_stepBoundExceeded _ _ _ _)

/-- A loop that has ended within a bound has ended the same way within a larger one. -/
theorem runLoop_eq_of_le {b n : Nat} (h : runLoop b s ≠ .fault .stepBoundExceeded) (hn : b ≤ n) :
    runLoop n s = runLoop b s := by
  obtain ⟨k, rfl⟩ := Nat.exists_eq_add_of_le hn
  exact runLoop_more k h

/-- R233's bound is within the model's own, so from it on the loop has the outcome of the STEP. -/
theorem runStep_loopOutcome (hs : s.Inv) (hp : s.phase.resumable) : LoopOutcome f inp oc s (runStep f inp oc s) := by
  have hended := stepWithinProgressBound s f inp oc hs hp
  obtain ⟨-, hdict, -⟩ : _ ∧ s.cfgDictLog2.toNat ≤ 24 ∧ _ := ((startStep_live hs hp f inp oc).inv rfl).configOk rfl
  have hroom : (4 + s.cfgDictLog2.toNat) * oc ≤ 40 * oc := Nat.mul_le_mul_right oc (by omega)
  have hbound : inp.length + (4 + s.cfgDictLog2.toNat) * oc + 35 ≤ loopBound inp oc := by
    rw [loopBound]
    omega
  intro n hn
  rw [runStep, runLoop_eq_of_le hended hn, runLoop_eq_of_le hended hbound]

/-- What a STEP that runs the loop leaves and returns. -/
theorem stepReturned_of_stop (hs : s.Inv) (hp : s.phase.resumable) (h : runStep f inp oc s = .stop c u) :
    StepReturned inp oc s (endStep c u) (stepResult c u) := by
  obtain ⟨k, v, hv, hstop⟩ := runStep_last h
  have hend : RunOutcome (startStep f inp oc s) (.stop c u) := .ended hv hstop
  obtain ⟨hinput, hocap, -, hrequests, hresponses, hdraws⟩ := hend.samePort
  obtain ⟨hdict, hrate, hcsum⟩ := hend.sameConfig
  obtain ⟨hrun, hlive⟩ := microAfter_live rfl (startStep_live hs hp f inp oc) hv
  have hlast := microStep_live hrun hlive
  rw [hstop] at hlast
  obtain ⟨-, ⟨hipos, hout⟩, -⟩ := hlast
  obtain ⟨-, -, hcount, -⟩ := hend.keeps microStep_recalls (startStep_recalls hs.winCanonical f inp oc)
  refine ⟨congrArg (· ++ _) hresponses, ?_, rfl, hipos.trans_eq (congrArg List.length hinput), hout.trans_eq hocap,
    hcount, hdict, hrate, hcsum, hrequests, hdraws, rfl, rfl, rfl, rfl, rfl⟩
  rcases microStep_stop_status hstop with ⟨hph, rfl⟩ | ⟨hph, rfl⟩ | ⟨hph, rfl⟩ | ⟨hph, herr, hc⟩
  · exact .inl ⟨hph, rfl⟩
  · exact .inr (.inl ⟨hph, rfl⟩)
  · exact .inr (.inr (.inl ⟨hph, rfl⟩))
  · refine .inr (.inr (.inr ⟨hph, congrArg statusWord herr.symm, ?_⟩))
    show 0x20 ≤ u.err.toNat ∧ u.err.toNat ≤ 0x24
    rw [herr]
    exact failure_code_bounds hc

/-- The one fault of a STEP is that of `TOTAL_OUT`, which the room left to it must reach. -/
theorem runStep_fault {e : Fault} (hs : s.Inv) (hp : s.phase.resumable) (h : runStep f inp oc s = .fault e) :
    e = .totalOutOverflow ∧ 2 ^ 64 ≤ s.totalOut.toNat + oc := by
  obtain ⟨k, v, hv, hfault⟩ := runStep_last h
  cases microStep_cases hfault with
  | overflow hd ho ht =>
    have hrecalls := microAfter_keeps microStep_recalls (startStep_recalls hs.winCanonical f inp oc) hv
    obtain ⟨-, -, hcount, -⟩ := history_recalls_iff.mp hrecalls
    obtain ⟨-, hocap, -⟩ := microAfter_frame hv
    have hroom : v.out.length < oc := (outAvail_eq_true.mp ho).trans_eq hocap
    exact ⟨rfl, by omega⟩
  | ended hd =>
    obtain ⟨hrun, hlive⟩ := microAfter_live rfl (startStep_live hs hp f inp oc) hv
    obtain ⟨-, -, -, -, -, -, -, hphase⟩ := (hlive.inv hrun).sessionOk hrun
    exact absurd hd (State.phaseOk.running hphase hrun).2

/-- How a STEP's loop ends. -/
theorem runStep_cases (hs : s.Inv) (hp : s.phase.resumable) :
    (∃ c u, runStep f inp oc s = .stop c u)
    ∨ (runStep f inp oc s = .fault .totalOutOverflow ∧ 2 ^ 64 ≤ s.totalOut.toNat + oc) := by
  cases hm : runStep f inp oc s with
  | cont u => exact absurd hm (runLoop_ne_cont _ _ _)
  | stop c u => exact .inl ⟨c, u, rfl⟩
  | fault e =>
    obtain ⟨rfl, ht⟩ := runStep_fault hs hp hm
    exact .inr ⟨rfl, ht⟩

/-- A STEP whose loop stops answers the end of the STEP. -/
theorem execStep_of_runStep (hp : s.phase.resumable) (h : runStep f inp oc s = .stop c u) :
    exec (.step f inp oc) s = .next (endStep c u) := by
  rw [execStep_running hp, h]
  rfl

/-- Settles O21: the loop has ended before R233's bound, in a micro-step that stops or in the one fault. -/
theorem stepAlwaysReturns : Obligations.StepAlwaysReturns := by
  intro s f inp oc hs hp
  have hloop := runStep_loopOutcome (f := f) (inp := inp) (oc := oc) hs hp
  have hreturns {c : Status} {u : State} (hm : runStep f inp oc s = .stop c u) :
      ∃ (c : Status) (u t : State) (r : Response),
        LoopOutcome f inp oc s (.stop c u) ∧ exec (.step f inp oc) s = .next t ∧ t = endStep c u
        ∧ r.status = c.code.setWidth 32 ∧ r.consumed = u.ipos ∧ r.produced = u.out ∧ StepReturned inp oc s t r :=
    ⟨c, u, _, stepResult c u, hm ▸ hloop, execStep_of_runStep hp hm, rfl, rfl, rfl, rfl, stepReturned_of_stop hs hp hm⟩
  rcases runStep_cases (f := f) (inp := inp) hs hp with ⟨c, u, hm⟩ | ⟨hm, ht⟩
  · exact ⟨fun _ => hreturns hm, fun _ => .inl (hreturns hm)⟩
  · refine ⟨fun hlt => absurd ht (not_le.mpr hlt), fun _ => .inr ⟨hm ▸ hloop, ?_⟩⟩
    rw [execStep_running hp, hm]
    rfl

end Sys2Proof.Machine
end

section
/-! CLAIM. O5, O11, O16, O18, O19: the commands that only answer, DEINIT, and how a step takes a request
(`44_host_commands.md` R260, R262, R266, R268, R269, `10_state.md` R48, `30_encoding.md` R92, R93, R97). -/

namespace Sys2Proof.Machine

/-- Settles O5: between commands a step is the host's. -/
theorem stepRunsDecodedRequest : Obligations.StepRunsDecodedRequest := by
  intro s q rest i hp hq hd
  rw [step_between hp]
  exact hostStep_ok hq hd

/-- Settles O11: the word is legal, and VERSION answers a constant. -/
theorem versionAnswers : Obligations.VersionAnswers :=
  ⟨fun p inp oc => decode_wordCode (w := 0x00000000) (p := p) (inp := inp) (oc := oc) (by decide), fun _ => rfl⟩

/-- In UNINIT there is no session to release. -/
theorem execDeinit_uninit {s : State} (hp : s.phase = .uninit) :
    exec .deinit s = .next (s.returning (statusResult 0x11)) := if_pos hp

/-- In every other phase DEINIT releases the session. -/
theorem execDeinit_live {s : State} (hp : s.phase ≠ .uninit) :
    exec .deinit s = .next ((release s).respond (statusOnly .okay)) := if_neg hp

/-- Settles O16: the word is legal, and the release keeps the queue and the cursor. -/
theorem deinitReleasesSession : Obligations.DeinitReleasesSession :=
  ⟨fun p inp oc => decode_wordCode (w := 0x00000003) (p := p) (inp := inp) (oc := oc) (by decide), fun _ =>
    ⟨execDeinit_uninit, fun hp => ⟨_, execDeinit_live hp, rfl, rfl, rfl, rfl, rfl, rfl, rfl, rfl⟩⟩⟩

/-- Settles O19: both rows are FAIL_BAD_COMMAND, whatever the word. -/
theorem reservedOpcodesRefused : Obligations.ReservedOpcodesRefused := fun _ _ => ⟨rfl, rfl⟩

/-! ### QUERY -/

/-- QUERY's word decodes to QUERY, whatever stands beside it. -/
theorem decode_queryWord (q : BitVec 4) (p : Word) (inp : List Byte) (oc : Nat) :
    decode (wordCode (queryWord q) p inp oc) = .ok (.query q) := by
  obtain ⟨hlegal, hop, hq⟩ := queryWord_spec q
  rw [decode_wordCode hlegal]
  simp only [commandOf, hop, hq]
  rfl

theorem execQuery_badIndex {s : State} {q : BitVec 4} (hq : 6 ≤ q.toNat) :
    exec (.query q) s = .next (s.returning (valueResult 0x12 0)) := if_pos hq

theorem execQuery_uninit {s : State} {q : BitVec 4} (hq : q.toNat < 6) (hp : s.phase = .uninit) (h0 : q ≠ 0) :
    exec (.query q) s = .next (s.returning (valueResult 0x11 0)) :=
  (if_neg (not_le.mpr hq)).trans (if_pos ⟨hp, h0⟩)

theorem execQuery_observed {s : State} {q : BitVec 4} (hq : q.toNat < 6) (h : s.phase ≠ .uninit ∨ q = 0) :
    exec (.query q) s = .next (s.returning (valueResult 0x00 (s.observed q.toNat))) :=
  (if_neg (not_le.mpr hq)).trans (if_neg fun ⟨hp, h0⟩ => h.elim (· hp) h0)

theorem phaseCode_toNat (p : Phase) : (p.code.setWidth 32).toNat = phaseNumber p := by
  cases p <;> rfl

/-- The parameter word as a number: its fields do not overlap (`30_encoding.md` R94). -/
theorem paramWord_toNat (d : BitVec 5) (r : BitVec 4) (c : BitVec 1) :
    (paramWord d r c).toNat = d.toNat + r.toNat * 2 ^ 8 + c.toNat * 2 ^ 16 := by
  have hd : (d.setWidth 32).toNat = d.toNat := BitVec.toNat_setWidth_of_le (by decide)
  have hr : (r.setWidth 32).toNat = r.toNat := BitVec.toNat_setWidth_of_le (by decide)
  have hc : (c.setWidth 32).toNat = c.toNat := BitVec.toNat_setWidth_of_le (by decide)
  have hlow : (r.setWidth 32 <<< 8 ||| d.setWidth 32).toNat = r.toNat * 2 ^ 8 + d.toNat := by
    rw [shiftLeft_or_toNat (by omega) (by omega), hr, hd]
  rw [paramWord, BitVec.or_comm, BitVec.or_comm (d.setWidth 32), shiftLeft_or_toNat (by omega) (by omega), hlow, hc]
  omega

/-- The registers QUERY shows, as numbers (`10_state.md` R48). -/
theorem observed_toNat (s : State) {n : Nat} (hn : n < 6) :
    (s.observed n).toNat =
      if n = 0 then phaseNumber s.phase
      else if n = 1 then s.err.toNat
      else if n = 2 then s.totalOut.toNat % 2 ^ 32
      else if n = 3 then s.totalOut.toNat / 2 ^ 32
      else if n = 4 then s.adlerB.toNat * 2 ^ 16 + s.adlerA.toNat
      else s.cfgDictLog2.toNat + s.cfgRate.toNat * 2 ^ 8 + s.cfgCsumEn.toNat * 2 ^ 16 := by
  match n, hn with
  | 0, _ => exact phaseCode_toNat s.phase
  | 1, _ => exact BitVec.toNat_setWidth_of_le (by decide)
  | 2, _ => exact BitVec.extractLsb'_toNat ..
  | 3, _ =>
    show (s.totalOut.extractLsb' 32 32).toNat = s.totalOut.toNat / 2 ^ 32
    rw [BitVec.extractLsb'_toNat, Nat.shiftRight_eq_div_pow]
    omega
  | 4, _ => exact csumComputed_toNat s
  | 5, _ => exact paramWord_toNat ..

/-- Settles O18: the index alone decides between the answers, except for UNINIT, and the register shown is a number. -/
theorem queryAnswers : Obligations.QueryAnswers := fun s q =>
  ⟨decode_queryWord q, execQuery_badIndex, execQuery_uninit,
    fun hq h => ⟨s.observed q.toNat, execQuery_observed hq h, observed_toNat s hq⟩⟩

end Sys2Proof.Machine
end

section
/-! CLAIM. O12, O13, O15: INIT and REINIT start a session (`44_host_commands.md` R263-R265, R272, `10_state.md` R50). -/

namespace Sys2Proof.Machine

variable {p : Word} {s : State}

theorem paramDictLog2_toNat (p : Word) : (paramDictLog2 p).toNat = p.toNat % 32 := by
  simp [paramDictLog2, BitVec.extractLsb'_toNat]

theorem paramRate_toNat (p : Word) : (paramRate p).toNat = p.toNat / 256 % 16 := by
  simp [paramRate, BitVec.extractLsb'_toNat, Nat.shiftRight_eq_div_pow]

theorem paramCsumEn_toNat (p : Word) : (paramCsumEn p).toNat = p.toNat / 65536 % 2 := by
  simp [paramCsumEn, BitVec.extractLsb'_toNat, Nat.shiftRight_eq_div_pow]

/-- The state in which INIT leaves a session just started: SessionReset's, with the result OK. -/
abbrev sessionOpened (p : Word) (s : State) : State := (sessionReset p s).respond (statusOnly .okay)

/-- SessionReset writes the registers as R263 lists them (`44_host_commands.md`). -/
theorem sessionOpened_started (p : Word) (s : State) : SessionStarted p s (sessionOpened p s) := by
  have hslot : (initialBank (paramDictLog2 p)).slot = List.replicate (p.toNat % 32 + 1) 1 := by
    rw [← paramDictLog2_toNat]
    rfl
  exact ⟨paramDictLog2_toNat p, paramRate_toNat p, paramCsumEn_toNat p, rfl, rfl, rfl, rfl, rfl, rfl, rfl, rfl, rfl,
    rfl, rfl, rfl, rfl, rfl, rfl, rfl, rfl, rfl, hslot, rfl, rfl, rfl, rfl, rfl, rfl, rfl⟩

theorem startSession_legal (h : paramLegal p) (s : State) :
    startSession p s = .next (sessionOpened p s) := if_pos ((paramValid_iff p).mpr h)

theorem startSession_illegal (h : ¬ paramLegal p) (s : State) :
    startSession p s = .next (s.returning (statusResult 0x10)) := if_neg (mt (paramValid_iff p).mp h)

theorem execReinit_uninit (hp : s.phase = .uninit) :
    exec (.reinit p) s = .next (s.returning (statusResult 0x11)) := if_pos hp

theorem execReinit_live (hp : s.phase ≠ .uninit) : exec (.reinit p) s = startSession p s := if_neg hp

/-- Settles O12: INIT starts a session in every phase, if PARAM is valid. -/
theorem initStartsSession : Obligations.InitStartsSession :=
  ⟨fun p inp oc => decode_wordCode (w := 0x00000001) (p := p) (inp := inp) (oc := oc) (by decide), fun s p =>
    ⟨fun h => ⟨_, startSession_legal h s, sessionOpened_started p s⟩, fun h => startSession_illegal h s⟩⟩

/-- Settles O13: past the check of UNINIT, REINIT is INIT. -/
theorem reinitStartsSession : Obligations.ReinitStartsSession :=
  ⟨fun p inp oc => decode_wordCode (w := 0x00000002) (p := p) (inp := inp) (oc := oc) (by decide), fun s p =>
    ⟨execReinit_uninit, fun hp h => (execReinit_live hp).trans (startSession_illegal h s), fun hp h =>
      ⟨_, (execReinit_live hp).trans (startSession_legal h s), sessionOpened_started p s⟩⟩⟩

/-- SessionReset writes every field but the cursor and the model's own. -/
theorem sessionReset_agrees_of_closed {s' : State} (p : Word) (hc : s.cursorClosed) (hc' : s'.cursorClosed) :
    (sessionReset p s).agrees (sessionReset p s') := by
  obtain ⟨hinput, hipos, hout, hocap, hfinal⟩ := hc
  obtain ⟨hinput', hipos', hout', hocap', hfinal'⟩ := hc'
  simp only [State.agrees, sessionReset, hinput, hipos, hout, hocap, hfinal, hinput', hipos', hout', hocap', hfinal']

/-- Settles O15: both commands are SessionReset, and neither cursor is open. -/
theorem reinitLeavesInitState : Obligations.ReinitLeavesInitState := by
  intro s s' t t' p hlegal hc hc' hp h h'
  cases (startSession_legal hlegal s).symm.trans h
  cases ((execReinit_live hp).trans (startSession_legal hlegal s')).symm.trans h'
  exact sessionReset_agrees_of_closed p hc hc'

end Sys2Proof.Machine
end

section
/-! CLAIM. O58, O59: ONESHOT (`44_host_commands.md` R270, R271, `60_exceptions.md` R301, R302, `30_encoding.md`
R109). -/

namespace Sys2Proof.Machine

variable {s t u : State} {p : Word} {src : List Byte} {cap : Nat} {want : Bool} {c : Status}

/-- Settles O58: ONESHOT looks at `PHASE` first, then at PARAM. -/
theorem oneshotRefusals : Obligations.OneshotRefusals := fun _ p _ _ _ =>
  ⟨fun hp => if_pos hp, fun hp h => (if_neg (not_not.mpr hp)).trans (if_neg (mt (paramValid_iff p).mp h))⟩

/-- ONESHOT in UNINIT with a valid PARAM, where its STEP stops. -/
theorem execOneshot_of_runStep (hp : s.phase = .uninit) (h : paramLegal p)
    (hrun : runStep true src cap (sessionReset p s) = .stop c u) :
    exec (.oneshot p src cap want) s = .next ((release u).closeCursor.respond (oneshotResult c want u)) := by
  simp only [exec, execOneshot, hp, ne_eq, not_true_eq_false, if_false, (paramValid_iff p).mpr h, if_true, hrun]
  rfl

/-- ONESHOT's result from the status its STEP returned (`44_host_commands.md` R270, R271). -/
theorem oneshotResult_eq (c : Status) (want : Bool) (u : State) :
    oneshotResult c want u =
      { status := if statusWord c.code = 0x02 then 0x30 else statusWord c.code
        value := if statusWord c.code = 0x03 ∧ want = true then some u.csumComputed else none
        consumed := 0
        produced := u.out } := by
  cases c <;> simp [oneshotResult, statusWord, Status.code]

/-- A STEP with `FINAL` does not ask for more input (`43_decode_driver.md` R212). -/
theorem runStep_final_ne_needInput {inp : List Byte} {oc : Nat} (h : runStep true inp oc s = .stop c u) :
    c ≠ .needInput := by
  rintro rfl
  obtain ⟨k, v, hv, hstop⟩ := runStep_last h
  obtain ⟨-, -, hfinal, -⟩ := microAfter_frame hv
  cases microStep_cases hstop with
  | needsInput hd ha hf => cases hfinal.symm.trans hf

/-- What DEINIT leaves depends on the draw and the cursor alone. -/
theorem release_agrees_of_draws (hd : s.draws = t.draws) (hc : s.cursorClosed) (hc' : t.cursorClosed) :
    (release s).agrees (release t) := by
  obtain ⟨hinput, hipos, hout, hocap, hfinal⟩ := hc
  obtain ⟨hinput', hipos', hout', hocap', hfinal'⟩ := hc'
  simp only [State.agrees, release, hd, hinput, hipos, hout, hocap, hfinal, hinput', hipos', hout', hocap', hfinal']

theorem statusWord_eq_needInput_iff (c : Status) : statusWord c.code = 0x01 ↔ c = .needInput := by
  cases c <;> decide

/-- A STEP that ran the loop leaves a session. -/
theorem runStep_stop_ne_uninit {f : Bool} (h : runStep f src cap s = .stop c u) : u.phase ≠ .uninit := by
  obtain ⟨k, v, -, hstop⟩ := runStep_last h
  rcases microStep_stop_phase hstop with hp | hp | hp | hp <;> simp [hp]

/-- INIT opens a session that meets the invariant, with nothing produced yet. -/
theorem sessionOpened_runStep (hc : s.cursorClosed) (h : paramLegal p) (hcap : cap < 2 ^ 64) :
    (sessionOpened p s).Inv ∧ (sessionOpened p s).phase.resumable
      ∧ ∃ c u, runStep true src cap (sessionOpened p s) = .stop c u := by
  have hinv : (sessionOpened p s).Inv := respond_inv (sessionReset_inv ((paramValid_iff p).mpr h) hc) _
  have hready : (sessionOpened p s).phase.resumable := .inl rfl
  have htotal : (sessionOpened p s).totalOut.toNat + cap < 2 ^ 64 := by simpa using hcap
  exact ⟨hinv, hready, (runStep_cases hinv hready).resolve_right fun ⟨_, h⟩ => absurd h (not_le.mpr htotal)⟩

/-- ONESHOT's STEP does what the one after INIT does, the result of INIT apart. -/
theorem runStep_sessionReset (hinv : (sessionOpened p s).Inv)
    (hrun : runStep true src cap (sessionOpened p s) = .stop c u) :
    runStep true src cap (sessionReset p s) = .stop c (u.withOwnOf (sessionReset p s)) := by
  have hsame := runStep_withOwnOf (sessionReset p s) hinv (.inl rfl) true src cap
  rwa [hrun] at hsame

/-- Settles O59: ONESHOT's STEP is the one after INIT, and both paths release the session at the same draw. -/
theorem oneshotRunsCommands : Obligations.OneshotRunsCommands := by
  intro s p src cap want hp hc hlegal hcap
  obtain ⟨hinv, hready, c, u, hrun⟩ := sessionOpened_runStep (src := src) hc hlegal hcap
  obtain ⟨hresponses, -, -, -, hproduced, -, -, -, -, -, hdraws, hclosed⟩ := stepReturned_of_stop hinv hready hrun
  have hlive : (endStep c u).phase ≠ .uninit := show u.phase ≠ .uninit from runStep_stop_ne_uninit hrun
  refine ⟨_, _, _, _, stepResult c u, (endStep c u).observed 4, startSession_legal hlegal s,
    execStep_of_runStep hready hrun, hresponses, execQuery_observed (q := 4) (by decide) (.inl hlive),
    execDeinit_live hlive, execOneshot_of_runStep hp hlegal (runStep_sessionReset hinv hrun), ?_, rfl, rfl,
    mt (statusWord_eq_needInput_iff c).mp (runStep_final_ne_needInput hrun), hproduced, ?_⟩
  · exact release_agrees_of_draws (s := (u.withOwnOf (sessionReset p s)).closeCursor) (t := endStep c u) hdraws.symm
      ⟨rfl, rfl, rfl, rfl, rfl⟩ hclosed
  · exact congrArg (fun r => s.responses ++ [r]) (oneshotResult_eq c want _)

end Sys2Proof.Machine
end

section
/-! SUPPORT. Which instructions the host asks for: no request decodes to a stream item (`30_encoding.md` R90, R92, R99,
R109). -/

namespace Sys2Proof

open Sys2Proof.Machine

/-- The instruction is a stream item (`30_encoding.md` R99). -/
def Instr.isItem : Instr → Bool
  | .lit _ | .matchItem _ _ | .eos _ => true
  | _ => false

theorem commandOf_not_item (c : Command) : (commandOf c).isItem = false := by
  unfold commandOf
  split <;> rfl

/-- The host has no way to ask for a stream item. -/
theorem request_not_item {q : Request} {i : Instr} (h : decode (.request q) = .ok i) : i.isItem = false := by
  cases q with
  | oneshot p src cap want => cases h; rfl
  | command c =>
    by_cases hw : wordIllegal c.cmd
    · rcases decodeCommand_illegal hw with h8F | h67 | ⟨e, he⟩
      · cases h8F.symm.trans h; rfl
      · cases h67.symm.trans h; rfl
      · cases he.symm.trans h
    · cases (decodeCommand_legal hw).symm.trans h
      exact commandOf_not_item c

end Sys2Proof
end

section
/-! CLAIM. O4: a step is not refused, and its one fault is that of `TOTAL_OUT` (`60_exceptions.md` R322,
`93_implementation_defined.md` U6). -/

namespace Sys2Proof.Machine

variable {s : State} {i : Instr}

/-- The machine goes on, or stops because `TOTAL_OUT` would pass `2^64 - 1`. -/
def GoesOnOrOverflows (o : Host.Outcome State Fault Refusal) : Prop :=
  (∃ t, o = .next t) ∨ o = .fault .totalOutOverflow

/-- A command that answers at once goes on. -/
theorem answer_goesOn (r : Response) (s : State) : GoesOnOrOverflows (answer r s) := .inl ⟨_, rfl⟩

theorem closeMicro_goesOnOrOverflows {m : Micro} (hm : ∀ f, m = .fault f → f = .totalOutOverflow) :
    GoesOnOrOverflows (closeMicro m) := by
  cases m with
  | cont t => exact .inl ⟨t, rfl⟩
  | stop c t => exact .inl ⟨_, rfl⟩
  | fault f => exact .inr (congrArg Host.Outcome.fault (hm f rfl))

/-! ### Inside a STEP -/

/-- A running STEP is never in DONE, which has no micro-step (`43_decode_driver.md` R224). -/
theorem microStep_fault (hs : s.Inv) (hp : s.phase = .decoding) {f : Fault} (h : microStep s = .fault f) :
    f = .totalOutOverflow := by
  cases microStep_cases h with
  | overflow => rfl
  | ended hd =>
    obtain ⟨-, -, -, -, -, -, -, hphase⟩ := hs.sessionOk hp
    exact absurd hd (State.phaseOk.running hphase hp).2

/-- An item that the stream holds is finished within its bound, by a micro-step past its fields. -/
theorem exec_read_goesOnOrOverflows {m : Micro} (hp : s.phase = .decoding) (h : readItem s = some (i, m)) :
    GoesOnOrOverflows (exec i s) := by
  rcases readItem_cont_or_stop h with ⟨u, rfl⟩ | ⟨c, w, rfl⟩
  · obtain ⟨-, hread, -⟩ := (readItem_cont_iff hp).mp h
    obtain ⟨k, v, -, hend, hfinish, -⟩ := finishItem_finishBound hread
    rw [exec_of_read hp h, hfinish]
    exact closeMicro_goesOnOrOverflows fun f => microStep_body_fault hend
  · exact .inl ⟨_, exec_of_read_stop hp h⟩

theorem streamStep_goesOnOrOverflows (hs : s.Inv) (hp : s.phase = .decoding) :
    GoesOnOrOverflows (streamStep s) := by
  unfold streamStep
  split
  · exact exec_read_goesOnOrOverflows hp ‹_›
  · exact closeMicro_goesOnOrOverflows fun f => microStep_fault hs hp

/-! ### Between commands -/

theorem startSession_goesOn (p : Word) (s : State) : GoesOnOrOverflows (startSession p s) := by
  unfold startSession
  split <;> exact answer_goesOn ..

theorem execReinit_goesOn (p : Word) (s : State) : GoesOnOrOverflows (execReinit p s) := by
  unfold execReinit
  split
  · exact answer_goesOn ..
  · exact startSession_goesOn p s

theorem execDeinit_goesOn (s : State) : GoesOnOrOverflows (execDeinit s) := by
  unfold execDeinit
  split <;> exact answer_goesOn ..

theorem execQuery_goesOn (q : BitVec 4) (s : State) : GoesOnOrOverflows (execQuery q s) := by
  unfold execQuery
  split
  · exact answer_goesOn ..
  · split <;> exact answer_goesOn ..

/-- A STEP runs the loop in a resumable phase and answers at once in a terminal one. -/
theorem execStep_goesOnOrOverflows (hs : s.Inv) (hp : s.phase ≠ .decoding) (f : Bool) (inp : List Byte) (oc : Nat) :
    GoesOnOrOverflows (exec (.step f inp oc) s) := by
  have hloop (hr : s.phase.resumable) : GoesOnOrOverflows (exec (.step f inp oc) s) := by
    rw [execStep_running hr]
    exact closeMicro_goesOnOrOverflows fun e h => (runStep_fault hs hr h).1
  cases hph : s.phase with
  | decoding => exact absurd hph hp
  | ready => exact hloop (.inl hph)
  | needInput => exact hloop (.inr (.inl hph))
  | needOutputSpace => exact hloop (.inr (.inr hph))
  | uninit | success | failed =>
    simp only [exec, execStep, hph]
    exact answer_goesOn ..

/-- ONESHOT's STEP starts from a session just opened, which meets the invariant. -/
theorem execOneshot_goesOnOrOverflows (hs : s.Inv) (p : Word) (src : List Byte) (cap : Nat) (want : Bool) :
    GoesOnOrOverflows (execOneshot p src cap want s) := by
  unfold execOneshot
  split
  · exact answer_goesOn ..
  · rename_i hp
    split
    · rename_i hvalid
      have hinv := sessionReset_inv hvalid (hs.cursorClosed (by simp [not_not.mp hp]))
      rcases runStep_cases (f := true) (inp := src) (oc := cap) hinv (.inl rfl) with ⟨c, u, hrun⟩ | ⟨hrun, -⟩ <;>
        rw [hrun]
      · exact answer_goesOn ..
      · exact .inr rfl
    · exact answer_goesOn ..

theorem exec_goesOnOrOverflows (hs : s.Inv) (hp : s.phase ≠ .decoding) (hi : i.isItem = false) :
    GoesOnOrOverflows (exec i s) := by
  cases i with
  | version | reservedOp67 w | reservedOp8F w => exact answer_goesOn ..
  | init p => exact startSession_goesOn p s
  | reinit p => exact execReinit_goesOn p s
  | deinit => exact execDeinit_goesOn s
  | step f inp oc => exact execStep_goesOnOrOverflows hs hp f inp oc
  | query q => exact execQuery_goesOn q s
  | oneshot p src cap want => exact execOneshot_goesOnOrOverflows hs p src cap want
  | lit b | matchItem l d | eos x => cases hi

theorem hostStep_goesOnOrOverflows (hs : s.Inv) (hp : s.phase ≠ .decoding) : GoesOnOrOverflows (hostStep s) := by
  unfold hostStep
  split
  · exact .inl ⟨s, rfl⟩
  · split
    · exact exec_goesOnOrOverflows (takeRequest_inv hs) hp (request_not_item ‹_›)
    · exact answer_goesOn ..

/-- Settles O4: inside a STEP a step closes a micro-step of a state that meets the invariant; between commands the host
asks for no item, and the loop of a STEP ends within its bound. -/
theorem stepsFaultOnlyOnOverflow : Obligations.StepsFaultOnlyOnOverflow := by
  intro s hs
  have hstep : GoesOnOrOverflows (step s) := by
    by_cases hp : s.phase = .decoding
    · rw [step_decoding hp]; exact streamStep_goesOnOrOverflows hs hp
    · rw [step_between hp]; exact hostStep_goesOnOrOverflows hs hp
  rcases hstep with ⟨t, ht⟩ | hf
  · simp [ht]
  · simp [hf]

end Sys2Proof.Machine
end

section
/-! CLAIM. O35: failure entry (`60_exceptions.md` R311, `43_decode_driver.md` R226, `40_range_decoder.md` R140). -/

namespace Sys2Proof.Machine

/-- A failing micro-step enters FAILED from a state that differs from `s` at most in what the micro-step has decoded or
consumed before it failed. Nothing was, where a decode fails, the input has ended or the sync check fails. -/
theorem microStep_failure {s t : State} {c : Status} (h : microStep s = .stop c t) (hc : c.isFailure) :
    ∃ u, t = failureEntry c u ∧ u.dstate = s.dstate ∧ u.history = s.history
      ∧ (c = .corruptSymbol ∨ c = .truncated → u = s) ∧ (c = .corruptFormat → s.dstate = .tail → u = s) := by
  cases microStep_cases h with
  | truncated | noSymbol | noBit | tailBad => exact ⟨s, rfl, rfl, rfl, fun _ => rfl, fun _ _ => rfl⟩
  | badFirstByte hd => exact ⟨_, rfl, rfl, rfl, by simp, by simp [hd]⟩
  | slotBad | extraBad | csumBad => exact ⟨_, rfl, rfl, rfl, by simp, by simp⟩
  | needsInput | needsOutput | tailDone => simp [Status.isFailure] at hc

/-- Settles O35: failure entry writes `ERR` and `PHASE` alone, and no micro-step that fails has produced a byte. -/
theorem failureEntry_holds : Obligations.FailureEntry := by
  intro s t c h hc
  obtain ⟨u, rfl, hd, hh, hsame, hsync⟩ := microStep_failure h hc
  obtain ⟨-, hwin, htotal, ha, hb, hout⟩ := History.mk.inj hh
  refine ⟨rfl, rfl, hd, hwin, htotal, ha, hb, hout, fun hcode => ?_, fun hcode htail => ?_⟩
  · rw [hsame hcode]
    rfl
  · rw [hsync hcode htail, hcode]
    rfl

end Sys2Proof.Machine
end

section
/-! CLAIM. O60: the instances of a platform share no mutable state (`60_exceptions.md` R318, `20_memory.md` R71,
R76). -/

namespace Sys2Proof.Machine

/-- A step of a core writes that core alone, and what it writes depends on that core alone: on every platform with the
same core there, it writes the same. A core that does not exist is written by no `set`. -/
theorem stepAt_local {k : Nat} {p q : Platform} (h : p.stepAt k = .next q) :
    ∃ t, q = ⟨p.cores.set k t⟩
      ∧ ∀ p' : Platform, p'.cores[k]? = p.cores[k]? → p'.stepAt k = .next ⟨p'.cores.set k t⟩ := by
  cases hk : p.cores[k]? with
  | none =>
    have hidle (p' : Platform) (hp' : p'.cores[k]? = none) : ⟨p'.cores.set k State.reset⟩ = p' :=
      congrArg Platform.mk (List.set_eq_of_length_le (List.getElem?_eq_none_iff.mp hp'))
    simp only [Platform.stepAt, hk, Host.Outcome.next.injEq] at h
    subst h
    exact ⟨State.reset, (hidle p hk).symm, fun p' hp' => by simp only [Platform.stepAt, hp', hidle p' hp']⟩
  | some s =>
    simp only [Platform.stepAt, hk] at h
    split at h <;> cases h
    rename_i t ht
    exact ⟨t, rfl, fun p' hp' => by simp only [Platform.stepAt, hp', ht]⟩

/-- Settles O60: each of the two steps reads and writes its own entry of the list of cores. -/
theorem instancesAreIndependent : Obligations.InstancesAreIndependent := by
  intro j k p q q' hjk hj hk
  obtain ⟨t, rfl, hstepj⟩ := stepAt_local hj
  obtain ⟨t', rfl, hstepk⟩ := stepAt_local hk
  refine ⟨fun i hi => List.getElem?_set_ne hi.symm, _, hstepk _ (List.getElem?_set_ne hjk), ?_⟩
  rw [hstepj _ (List.getElem?_set_ne hjk.symm), List.set_comm _ _ hjk]

end Sys2Proof.Machine
end

section
/-! CLAIM. O7, O14, O17: the idle core, and the commands refused for their PARAM or for want of a session
(`60_exceptions.md` R302, R303, R320). -/

namespace Sys2Proof.Machine

theorem hostStep_idle {s : State} (h : s.requests = []) : hostStep s = .next s := by simp only [hostStep, h]

/-- Settles O7: with no request the host's step does nothing. -/
theorem idleCoreKeepsState : Obligations.IdleCoreKeepsState := fun _ hp h => (step_between hp).trans (hostStep_idle h)

/-- Settles O14: INIT, and REINIT past the check of UNINIT, refuse the PARAM. -/
theorem invalidParamRefused : Obligations.InvalidParamRefused := fun s _ h =>
  ⟨startSession_illegal h s, fun hp => (execReinit_live hp).trans (startSession_illegal h s)⟩

theorem execStep_uninit {s : State} (hp : s.phase = .uninit) (f : Bool) (inp : List Byte) (oc : Nat) :
    exec (.step f inp oc) s = .next (s.returning (statusResult 0x11)) := by
  simp only [exec, execStep, hp]
  rfl

/-- Settles O17: each command looks at `PHASE` first, QUERY after the range of its index. -/
theorem usageErrors : Obligations.UsageErrors := fun s =>
  ⟨fun hp => ⟨fun _ => execReinit_uninit hp, execDeinit_uninit hp, execStep_uninit hp, fun q hmin hmax =>
      execQuery_uninit (by omega) hp (by rintro rfl; simp at hmin)⟩,
    fun hp f inp oc => (stepInTerminalPhase s f inp oc).2 hp⟩

end Sys2Proof.Machine
end

section
/-! CLAIM. O1, O2: power-on reset (`70_reset_and_hazards.md` R340, `10_state.md` R48, R50). -/

namespace Sys2Proof.Machine

theorem observed_phase_uninit {s : State} (hp : s.phase = .uninit) : s.observed 0 = 0 := by
  simp only [State.observed, hp]
  rfl

/-- In UNINIT, QUERY PHASE is the one QUERY that reads its register, and it reads 0. -/
theorem execQuery_phase_uninit {s : State} (hp : s.phase = .uninit) :
    exec (.query 0) s = .next (s.returning (valueResult 0x00 0)) := by
  have hanswer : exec (.query 0) s = .next (s.returning (valueResult 0x00 (s.observed 0))) :=
    execQuery_observed (by decide) (.inr rfl)
  rwa [observed_phase_uninit hp] at hanswer

theorem phase_reset : State.reset.phase = .uninit := rfl

theorem cursorClosed_reset : State.reset.cursorClosed := ⟨rfl, rfl, rfl, rfl, rfl⟩

/-- Settles O1: of the values at reset it uses `PHASE` alone. -/
theorem resetIsUninit : Obligations.ResetIsUninit := ⟨phase_reset, execQuery_phase_uninit phase_reset⟩

/-- Settles O2: in UNINIT an empty window and a closed cursor are enough. -/
theorem resetMeetsInvariant : Obligations.ResetMeetsInvariant := inv_of_uninit rfl cursorClosed_reset phase_reset

end Sys2Proof.Machine
end
